-- ==== Sys2Proof/Word.lean ====
section
/-! DEFINITION. The two word types of the part: octets of the SPI frames and handset-time values. -/
namespace Sys2Proof

/-- One octet of an SPI frame (R196, R197). -/
abbrev Octet := BitVec 8

/-- A handset-time value: a count of ticks, 32 bits wide, wrapping modulo 2^32 (R1). -/
abbrev HT := BitVec 32

end Sys2Proof
end

