-- ==== Sys2Proof/Syntax.lean ====
section
/-! DEFINITION. The commands of the part: one constructor per row of spec/opcode_table.json. -/
namespace Sys2Proof

/-- The two subscriptions (R18). -/
inductive Sub where
  | sub0 | sub1
deriving DecidableEq, Repr

/-- The other subscription of the handset. -/
def Sub.other : Sub → Sub
  | .sub0 => .sub1
  | .sub1 => .sub0

/-- The two protocol-stack ports. -/
inductive StackPort where
  | spt0 | spt1
deriving DecidableEq, Repr

/-- The three SPI target ports (chapter 11). -/
inductive Port where
  | spt0 | spt1 | apt
deriving DecidableEq, Repr

/-- The commands. A request carries the port it comes from, its tag octet and its body octets, as R197 and
R207 lay out a request frame; its kind is the constructor. An expiry that several holders can have carries
the holder's name. -/
inductive Instr where
  /-- POWER_ON_RESET (R208) -/
  | powerOnReset
  /-- TRANSACTION_ABORTED (R196) -/
  | transactionAborted (p : Port)
  /-- REF_READY (R192) -/
  | refReady
  /-- HT_TICK (R1): the divider reaches 600 cycles -/
  | htTick
  /-- SLOW_CYCLE (R190): a slow-clock edge; `fast` fast reference cycles were counted since the last one (R182) -/
  | slowCycle (fast : Nat)
  /-- ANCHOR_ADVANCE (R8) -/
  | anchorAdvance (sub : Sub)
  /-- OCCASION_START (R65) -/
  | occasionStart
  /-- OCCASION_END (R74) -/
  | occasionEnd
  /-- GRACE_EXPIRY (R79) of the record in a calendar slot -/
  | graceExpiry (slot : Nat)
  /-- WINDOW_OPENING (R82) -/
  | windowOpening
  /-- TTT_EXPIRY (R113) -/
  | tttExpiry (sub : Sub)
  /-- REPEAT_EXPIRY (R113) -/
  | repeatExpiry (sub : Sub)
  /-- BAR_EXPIRY (R104) of an entry of a cell table -/
  | barExpiry (sub : Sub) (entry : Nat)
  /-- SETUP_EXPIRY (R139) of a call context -/
  | setupExpiry (ctx : Nat)
  /-- RELEASE_EXPIRY (R140) of a call context -/
  | releaseExpiry (ctx : Nat)
  /-- REASSEMBLY_TIMEOUT (R155) of a reassembly entry -/
  | reassemblyTimeout (entry : Nat)
  /-- RECALIBRATION_EXPIRY (R184) -/
  | recalibrationExpiry
  /-- CALIBRATION_COMPLETE (R183): a running calibration has counted its 2^n slow cycles; the `fast` reference
  cycles since the edge that closed its window are none of its count (R182, log 12) -/
  | calibrationComplete (fast : Nat)
  /-- WAKE_TIMER_EXPIRY (R190) -/
  | wakeTimerExpiry
  /-- DOZE_POWER_UP_EXPIRY (R180) -/
  | dozePowerUpExpiry
  /-- TIME_READ (R16) -/
  | timeRead (p : Port) (tag : Octet) (body : List Octet)
  /-- ANCHOR_ADJUST (R12, R13) -/
  | anchorAdjust (p : Port) (tag : Octet) (body : List Octet)
  /-- BIND (R22) -/
  | bind (p : Port) (tag : Octet) (body : List Octet)
  /-- UNBIND (R23) -/
  | unbind (p : Port) (tag : Octet) (body : List Octet)
  /-- CAMP (R24, R25) -/
  | camp (p : Port) (tag : Octet) (body : List Octet)
  /-- DETACH (R26) -/
  | detach (p : Port) (tag : Octet) (body : List Octet)
  /-- RESUME (R32) -/
  | resume (p : Port) (tag : Octet) (body : List Octet)
  /-- PART_STATUS (R37) -/
  | partStatus (p : Port) (tag : Octet) (body : List Octet)
  /-- POLICY_SET (R36, R84) -/
  | policySet (p : Port) (tag : Octet) (body : List Octet)
  /-- OCC_SUBMIT (R46) -/
  | occSubmit (p : Port) (tag : Octet) (body : List Octet)
  /-- OCC_CANCEL (R53) -/
  | occCancel (p : Port) (tag : Octet) (body : List Octet)
  /-- OCC_PERIOD (R54) -/
  | occPeriod (p : Port) (tag : Octet) (body : List Octet)
  /-- OCC_LIST (R56) -/
  | occList (p : Port) (tag : Octet) (body : List Octet)
  /-- OCC_DONE (R77, R78) -/
  | occDone (p : Port) (tag : Octet) (body : List Octet)
  /-- CELL_LIST_SET (R91, R92) -/
  | cellListSet (p : Port) (tag : Octet) (body : List Octet)
  /-- MEAS_REPORT (R95, R96) -/
  | measReport (p : Port) (tag : Octet) (body : List Octet)
  /-- CELL_TABLE_READ (R105) -/
  | cellTableRead (p : Port) (tag : Octet) (body : List Octet)
  /-- CELL_CONFIG (R109) -/
  | cellConfig (p : Port) (tag : Octet) (body : List Octet)
  /-- SWITCH_BEGIN (R117, R118) -/
  | switchBegin (p : Port) (tag : Octet) (body : List Octet)
  /-- SWITCH_END (R119) -/
  | switchEnd (p : Port) (tag : Octet) (body : List Octet)
  /-- CANDIDATE_DECLINE (R115) -/
  | candidateDecline (p : Port) (tag : Octet) (body : List Octet)
  /-- CALL_DIAL (R131) -/
  | callDial (p : Port) (tag : Octet) (body : List Octet)
  /-- CALL_ANSWER (R132) -/
  | callAnswer (p : Port) (tag : Octet) (body : List Octet)
  /-- CALL_HOLD (R133) -/
  | callHold (p : Port) (tag : Octet) (body : List Octet)
  /-- CALL_RESUME (R133) -/
  | callResume (p : Port) (tag : Octet) (body : List Octet)
  /-- CALL_HANGUP (R134) -/
  | callHangup (p : Port) (tag : Octet) (body : List Octet)
  /-- CALL_INCOMING (R135) -/
  | callIncoming (p : Port) (tag : Octet) (body : List Octet)
  /-- CALL_PROGRESS (R136) -/
  | callProgress (p : Port) (tag : Octet) (body : List Octet)
  /-- CALL_LIST (R144) -/
  | callList (p : Port) (tag : Octet) (body : List Octet)
  /-- CALL_CONFIG (R145) -/
  | callConfig (p : Port) (tag : Octet) (body : List Octet)
  /-- TEXT_SEGMENT_IN (R150) -/
  | textSegmentIn (p : Port) (tag : Octet) (body : List Octet)
  /-- TEXT_LIST (R157) -/
  | textList (p : Port) (tag : Octet) (body : List Octet)
  /-- TEXT_READ (R158) -/
  | textRead (p : Port) (tag : Octet) (body : List Octet)
  /-- TEXT_RELEASE (R159) -/
  | textRelease (p : Port) (tag : Octet) (body : List Octet)
  /-- TEXT_CONFIG (R160) -/
  | textConfig (p : Port) (tag : Octet) (body : List Octet)
  /-- TEXT_COMPOSE (R165) -/
  | textCompose (p : Port) (tag : Octet) (body : List Octet)
  /-- TEXT_FILL (R166) -/
  | textFill (p : Port) (tag : Octet) (body : List Octet)
  /-- TEXT_COMMIT (R167) -/
  | textCommit (p : Port) (tag : Octet) (body : List Octet)
  /-- TEXT_ABANDON (R172) -/
  | textAbandon (p : Port) (tag : Octet) (body : List Octet)
  /-- TEXT_SEND_STATUS (R174) -/
  | textSendStatus (p : Port) (tag : Octet) (body : List Octet)
  /-- TEXT_SEND_CLOSE (R173) -/
  | textSendClose (p : Port) (tag : Octet) (body : List Octet)
  /-- TEXT_TAKE (R168) -/
  | textTake (p : Port) (tag : Octet) (body : List Octet)
  /-- TEXT_SEGMENT_RESULT (R169) -/
  | textSegmentResult (p : Port) (tag : Octet) (body : List Octet)
  /-- SLEEP_VOTE (R181) -/
  | sleepVote (p : Port) (tag : Octet) (body : List Octet)
  /-- SLEEP_CONFIG (R194) -/
  | sleepConfig (p : Port) (tag : Octet) (body : List Octet)
  /-- CALIBRATE (R185) -/
  | calibrate (p : Port) (tag : Octet) (body : List Octet)
  /-- FETCH_EVENTS (R203) -/
  | fetchEvents (p : Port) (tag : Octet) (body : List Octet)
  /-- EVENT_CONFIG (R204) -/
  | eventConfig (p : Port) (tag : Octet) (body : List Octet)
  /-- CLEAR_REFUSAL (R200) -/
  | clearRefusal (p : Port) (tag : Octet) (body : List Octet)
  /-- PORT_RESET (R210) -/
  | portReset (p : Port) (tag : Octet) (body : List Octet)
  /-- PART_RESET (R209) -/
  | partReset (p : Port) (tag : Octet) (body : List Octet)
  /-- RESET_PIN_ASSERTED (R208) -/
  | resetPinAsserted
  /-- UNSUPPORTED_REQUEST (R197): a frame whose kind octet is 0 or above 51 -/
  | unsupportedRequest (p : Port) (kind tag : Octet) (body : List Octet)
deriving DecidableEq, Repr

end Sys2Proof
end

