-- ==== Sys2Proof/Decode.lean ====
section
/-! DEFINITION. Decoding. The table gives its rows no bits, so `decodeTableWord` reads none of them; the frames
of R197 (kind code, tag, body length, body) are decoded and encoded here, with the kind codes of R198. -/
namespace Sys2Proof

/-- The command a word spells by the table's bits: no row of spec/opcode_table.json gives bits (log 20). -/
def decodeTableWord (_nbits _w : Nat) : Option Instr := none

/-- The request of a frame, by its kind code (R198); a code that names no kind is UNSUPPORTED_REQUEST (R197). -/
def requestOfKind (p : Port) (kind tag : Octet) (body : List Octet) : Instr :=
  match kind.toNat with
  | 1 => .timeRead p tag body
  | 2 => .anchorAdjust p tag body
  | 3 => .bind p tag body
  | 4 => .unbind p tag body
  | 5 => .camp p tag body
  | 6 => .detach p tag body
  | 7 => .resume p tag body
  | 8 => .partStatus p tag body
  | 9 => .policySet p tag body
  | 10 => .occSubmit p tag body
  | 11 => .occCancel p tag body
  | 12 => .occPeriod p tag body
  | 13 => .occList p tag body
  | 14 => .occDone p tag body
  | 15 => .cellListSet p tag body
  | 16 => .measReport p tag body
  | 17 => .cellTableRead p tag body
  | 18 => .cellConfig p tag body
  | 19 => .switchBegin p tag body
  | 20 => .switchEnd p tag body
  | 21 => .candidateDecline p tag body
  | 22 => .callDial p tag body
  | 23 => .callAnswer p tag body
  | 24 => .callHold p tag body
  | 25 => .callResume p tag body
  | 26 => .callHangup p tag body
  | 27 => .callIncoming p tag body
  | 28 => .callProgress p tag body
  | 29 => .callList p tag body
  | 30 => .callConfig p tag body
  | 31 => .textSegmentIn p tag body
  | 32 => .textList p tag body
  | 33 => .textRead p tag body
  | 34 => .textRelease p tag body
  | 35 => .textConfig p tag body
  | 36 => .textCompose p tag body
  | 37 => .textFill p tag body
  | 38 => .textCommit p tag body
  | 39 => .textAbandon p tag body
  | 40 => .textSendStatus p tag body
  | 41 => .textSendClose p tag body
  | 42 => .textTake p tag body
  | 43 => .textSegmentResult p tag body
  | 44 => .sleepVote p tag body
  | 45 => .sleepConfig p tag body
  | 46 => .calibrate p tag body
  | 47 => .fetchEvents p tag body
  | 48 => .eventConfig p tag body
  | 49 => .clearRefusal p tag body
  | 50 => .portReset p tag body
  | 51 => .partReset p tag body
  | _ => .unsupportedRequest p kind tag body

/-- The octets a master writes in one transaction, read as a command (R196): the request is taken when its
header and its declared body are complete; a transaction released before that is aborted; later octets fall
in the read phase and are ignored. -/
def decodeFrame (p : Port) : List Octet → Instr
  | kind :: tag :: len :: rest =>
    if rest.length < len.toNat then .transactionAborted p
    else requestOfKind p kind tag (rest.take len.toNat)
  | _ => .transactionAborted p

/-- The frame parts of a request: its port, kind code (R198), tag and body; none for a step that is no request. -/
def Instr.request? : Instr → Option (Port × Octet × Octet × List Octet)
  | .timeRead p tag body => some (p, 1, tag, body)
  | .anchorAdjust p tag body => some (p, 2, tag, body)
  | .bind p tag body => some (p, 3, tag, body)
  | .unbind p tag body => some (p, 4, tag, body)
  | .camp p tag body => some (p, 5, tag, body)
  | .detach p tag body => some (p, 6, tag, body)
  | .resume p tag body => some (p, 7, tag, body)
  | .partStatus p tag body => some (p, 8, tag, body)
  | .policySet p tag body => some (p, 9, tag, body)
  | .occSubmit p tag body => some (p, 10, tag, body)
  | .occCancel p tag body => some (p, 11, tag, body)
  | .occPeriod p tag body => some (p, 12, tag, body)
  | .occList p tag body => some (p, 13, tag, body)
  | .occDone p tag body => some (p, 14, tag, body)
  | .cellListSet p tag body => some (p, 15, tag, body)
  | .measReport p tag body => some (p, 16, tag, body)
  | .cellTableRead p tag body => some (p, 17, tag, body)
  | .cellConfig p tag body => some (p, 18, tag, body)
  | .switchBegin p tag body => some (p, 19, tag, body)
  | .switchEnd p tag body => some (p, 20, tag, body)
  | .candidateDecline p tag body => some (p, 21, tag, body)
  | .callDial p tag body => some (p, 22, tag, body)
  | .callAnswer p tag body => some (p, 23, tag, body)
  | .callHold p tag body => some (p, 24, tag, body)
  | .callResume p tag body => some (p, 25, tag, body)
  | .callHangup p tag body => some (p, 26, tag, body)
  | .callIncoming p tag body => some (p, 27, tag, body)
  | .callProgress p tag body => some (p, 28, tag, body)
  | .callList p tag body => some (p, 29, tag, body)
  | .callConfig p tag body => some (p, 30, tag, body)
  | .textSegmentIn p tag body => some (p, 31, tag, body)
  | .textList p tag body => some (p, 32, tag, body)
  | .textRead p tag body => some (p, 33, tag, body)
  | .textRelease p tag body => some (p, 34, tag, body)
  | .textConfig p tag body => some (p, 35, tag, body)
  | .textCompose p tag body => some (p, 36, tag, body)
  | .textFill p tag body => some (p, 37, tag, body)
  | .textCommit p tag body => some (p, 38, tag, body)
  | .textAbandon p tag body => some (p, 39, tag, body)
  | .textSendStatus p tag body => some (p, 40, tag, body)
  | .textSendClose p tag body => some (p, 41, tag, body)
  | .textTake p tag body => some (p, 42, tag, body)
  | .textSegmentResult p tag body => some (p, 43, tag, body)
  | .sleepVote p tag body => some (p, 44, tag, body)
  | .sleepConfig p tag body => some (p, 45, tag, body)
  | .calibrate p tag body => some (p, 46, tag, body)
  | .fetchEvents p tag body => some (p, 47, tag, body)
  | .eventConfig p tag body => some (p, 48, tag, body)
  | .clearRefusal p tag body => some (p, 49, tag, body)
  | .portReset p tag body => some (p, 50, tag, body)
  | .partReset p tag body => some (p, 51, tag, body)
  | .unsupportedRequest p kind tag body => some (p, kind, tag, body)
  | .powerOnReset => none
  | .transactionAborted _ => none
  | .refReady => none
  | .htTick => none
  | .slowCycle _ => none
  | .anchorAdvance _ => none
  | .occasionStart => none
  | .occasionEnd => none
  | .graceExpiry _ => none
  | .windowOpening => none
  | .tttExpiry _ => none
  | .repeatExpiry _ => none
  | .barExpiry _ _ => none
  | .setupExpiry _ => none
  | .releaseExpiry _ => none
  | .reassemblyTimeout _ => none
  | .recalibrationExpiry => none
  | .calibrationComplete _ => none
  | .wakeTimerExpiry => none
  | .dozePowerUpExpiry => none
  | .resetPinAsserted => none

/-- The frame a master writes for a request (R197): kind, tag, body length, body. -/
def encodeFrame (i : Instr) : Option (Port × List Octet) :=
  match i.request? with
  | some (p, kind, tag, body) => some (p, kind :: tag :: BitVec.ofNat 8 body.length :: body)
  | none => none

end Sys2Proof
end

