-- ==== Sys2Proof/Config.lean ====
section
/-! DEFINITION. What the manual leaves open: the free values of the model. -/
namespace Sys2Proof.Config

/-- DESIGN CHOICE, safe (log 7). The octet the part drives for an absent optional value of a response:
R207 fixes that the octets are driven "whether present or not" and does not give their value. The first
argument is the count of responses given so far, the second the octet's place in the body. -/
opaque absentOctet : Nat → Nat → Octet

end Sys2Proof.Config
end

