-- ==== Sys2Proof/Machine/State.lean ====
section
/-! DEFINITION. The state of the part as plain data: every block's registers, tables, queues, timers and lines,
and its values after power-on reset. -/
namespace Sys2Proof.Machine

/-- No command of the part faults: the manual gives the part no condition that stops it. -/
inductive Fault where
  /-- Raised by no command. Safe: it never occurs. -/
  | machineStopped
deriving DecidableEq, Repr

/-- No command of the part is refused by the model; a request the part refuses is answered with a status (R199). -/
inductive Refusal where
  /-- A command without a meaning in the model: raised by `exec` alone, for a row not modelled. Safe: nothing
  can be proved of such a step. No arm raises it. -/
  | notModelled (mnemonic : String)
deriving DecidableEq, Repr

/-- One value for each subscription. -/
structure PerSub (α : Type) where
  sub0 : α
  sub1 : α
deriving DecidableEq, Repr

/-- One value for each port. -/
structure PerPort (α : Type) where
  spt0 : α
  spt1 : α
  apt : α
deriving DecidableEq, Repr

/-! ### Timeline Unit (R1, R6, R17) -/

/-- The count source of HT (R1). -/
inductive CountSource where
  | fast | slow
deriving DecidableEq, Repr

/-- The Timeline Unit. An anchor's valid flag is "the anchor is present" (R6). -/
structure Tlu where
  ht : HT
  source : CountSource
  divider : Nat
  anchor : PerSub (Option HT)
deriving DecidableEq, Repr

/-! ### Subscription Table (R18, R19) -/

/-- Subscription states (R19). -/
inductive SubState where
  | detached | camped | switching | absent
deriving DecidableEq, Repr

/-- One subscription record (R18). -/
structure SubRecord where
  bound : Option StackPort
  state : SubState
  prior : SubState
  miss : Nat
  serving : Option Nat
  stagedWaiting : Bool
deriving DecidableEq, Repr

/-- The Subscription Table: the two records and the miss limit (R18). -/
structure Sbt where
  subs : PerSub SubRecord
  missLimit : Nat
deriving DecidableEq, Repr

/-! ### Occasion Calendar (R39, R41) -/

/-- Occasion kinds (R39, R40). -/
inductive OccKind where
  | page | meas | text | traffic | access | switch
deriving DecidableEq, Repr

/-- Occasion record states (R39). -/
inductive OccState where
  | waiting | granted | awaitingDone
deriving DecidableEq, Repr

/-- One occasion record (R39); its handle is computed from its slot (R41). -/
structure Occasion where
  sub : Sub
  kind : OccKind
  frame : Nat
  slot : Nat
  length : Nat
  start : HT
  period : Nat
  stagedPeriod : Option Nat
  remaining : Nat
  callLink : Option Nat
  sendLink : Option Nat
  state : OccState
  endHt : Option HT
  grace : Option HT
  placement : HT
deriving DecidableEq, Repr

/-- One calendar slot (R41) and the record it holds. -/
structure CalSlot where
  gen : Nat
  fresh : Bool
  late : Bool
  kept : Option Sub
  occ : Option Occasion
deriving DecidableEq, Repr

/-- The Occasion Calendar: 48 slots (R41). The list order of R43 is a function of the records. -/
structure Ocl where
  slots : List CalSlot
deriving DecidableEq, Repr

/-! ### Transceiver Grant Unit (R64) -/

/-- The grant record (R64). -/
structure Grant where
  handle : Nat
  sub : Sub
  cls : Nat
  endHt : HT
deriving DecidableEq, Repr

/-- Tie preferences, one for each class (R64). -/
structure TiePrefs where
  c0 : Sub
  c1 : Sub
  c2 : Sub
  c3 : Sub
deriving DecidableEq, Repr

/-- The Transceiver Grant Unit (R64). -/
structure Tgu where
  grant : Option Grant
  window : Nat
  used : Nat
  w : Nat
  a : Nat
  stagedW : Option Nat
  stagedA : Option Nat
  tie : TiePrefs
deriving DecidableEq, Repr

/-! ### Cell Watch Unit (R88, R90) and handover state (R108, R112, R116) -/

/-- Cell-table entry states (R89). -/
inductive EntryState where
  | empty | listed | tracked | serving
deriving DecidableEq, Repr

/-- A cell's identity: its code and channel (R88). -/
structure Cell where
  code : Nat
  channel : Nat
deriving DecidableEq, Repr

/-- One entry of a cell table (R88). -/
structure CellEntry where
  state : EntryState
  cell : Option Cell
  offset : Int
  level : Option Int
  count : Nat
  timing : Option HT
  bar : Option HT
deriving DecidableEq, Repr

/-- The best candidate of an evaluation record (R90). -/
structure Best where
  index : Nat
  code : Nat
  channel : Nat
  margin : Int
  fs : Int
  fc : Int
deriving DecidableEq, Repr

/-- An evaluation record (R90). -/
structure EvalRecord where
  ht : HT
  best : Option Best
deriving DecidableEq, Repr

/-- What a change of candidate does to a running trigger (R108). -/
inductive TriggerMode where
  | hold | restart
deriving DecidableEq, Repr

/-- The trigger configuration in force, durations in ticks (R108). -/
structure TrigConfig where
  k : Nat
  h : Nat
  ttt : Nat
  mode : TriggerMode
  repeatTicks : Nat
  barTicks : Nat
deriving DecidableEq, Repr

/-- The staged trigger configuration: the same settings, each optional (R108, R111). -/
structure StagedConfig where
  k : Option Nat
  h : Option Nat
  ttt : Option Nat
  mode : Option TriggerMode
  repeatTicks : Option Nat
  barTicks : Option Nat
deriving DecidableEq, Repr

/-- The trigger (R112): candidate, run start and expiries exist in the states the rule names. -/
inductive Trigger where
  | idle
  | running (c : Nat) (t0 : HT) (expiry : HT)
  | reported (c : Nat) (repeatAt : HT)
deriving DecidableEq, Repr

/-- The switch record (R116). -/
structure SwitchRec where
  target : Nat
  code : Nat
  channel : Nat
  handle : Nat
deriving DecidableEq, Repr

/-- The Cell Watch Unit's state for one subscription (R88, R90, R108, R112, R116). -/
structure Cwu where
  cells : List CellEntry
  evalRec : Option EvalRecord
  config : TrigConfig
  staged : StagedConfig
  trigger : Trigger
  switchRec : Option SwitchRec
  lateClose : Bool
deriving DecidableEq, Repr

/-! ### Causes (R205) -/

/-- The causes of R205, in the order of their codes. -/
inductive Cause where
  | busy | switching | callOnOtherLine | allowanceExhausted | notReady | retimed | missed | preempted
  | callEnded | sendFinished | switchTimeout | userHangup | otherLineActive | noStackAnswer | releaseTimeout
  | detached | stackAbsent | network | evicted | timeout | cancelled | lineLost | segmentFailed | userAbandon
  | camp | recamp | detach | missLimit | resume | switchBegin | switchClosed | powerOn | partReset
deriving DecidableEq, Repr

/-! ### Call Context Table (R127, R129) -/

/-- Call context states (R128). -/
inductive CtxState where
  | idle | dialing | setup | alerting | connected | held | releasing
deriving DecidableEq, Repr

/-- Call direction (R127). -/
inductive Direction where
  | mo | mt
deriving DecidableEq, Repr

/-- A release cause: a part cause, or NETWORK with the stack's value (R127, R130). -/
structure ReleaseCause where
  cause : Cause
  stack : Nat
deriving DecidableEq, Repr

/-- One call context (R127). -/
structure CallCtx where
  state : CtxState
  sub : Option Sub
  direction : Option Direction
  digits : Option (List Octet)
  reference : Option Nat
  audio : Bool
  cause : Option ReleaseCause
  started : Option HT
  connected : Option HT
  timer : Option HT
deriving DecidableEq, Repr

/-- The Call Context Table: four contexts and the part-wide items of R129, limits in ticks. -/
structure Cct where
  ctxs : List CallCtx
  setupLimit : Nat
  releaseLimit : Nat
  hold : PerSub Bool
  audioSel : Option StackPort
deriving DecidableEq, Repr

/-! ### Text Store (R147, R148, R149, R163, R164) -/

/-- One segment of an inbound message: its sequence number and its buffer (R148). -/
structure Segment where
  seq : Nat
  buffer : Nat
deriving DecidableEq, Repr

/-- The parts an inbound message has while assembling, complete or in the inbox (R148, R149). -/
structure InMsg where
  sub : Sub
  reference : Nat
  total : Nat
  segs : List Segment
  originator : Option (List Octet)
deriving DecidableEq, Repr

/-- A reassembly entry (R148). -/
inductive Reasm where
  | free
  | assembling (m : InMsg) (lastArrival expiry : HT)
  | complete (m : InMsg) (isPartial : Bool) (missing : List Nat) (done : HT)
deriving DecidableEq, Repr

/-- An inbox message (R149). -/
structure InboxMsg where
  id : Nat
  msg : InMsg
  isPartial : Bool
  missing : List Nat
  done : HT
deriving DecidableEq, Repr

/-- Send record states other than FREE (R163). -/
inductive SendState where
  | composing | staged | sending | kept
deriving DecidableEq, Repr

/-- Segment outcomes; FAILED carries the stack's cause (R163). -/
inductive SegOutcome where
  | pending | taken | sent
  | failed (cause : Nat)
  | skipped
deriving DecidableEq, Repr

/-- Send results (R163). -/
inductive SendResult where
  | ok | partialSent | failed | cancelled
deriving DecidableEq, Repr

/-- One segment item of a send record (R163). -/
structure SendSeg where
  buffer : Nat
  filled : Bool
  outcome : SegOutcome
deriving DecidableEq, Repr

/-- A send record that is not FREE (R163); its segment count is the length of `segs`. -/
structure SendRec where
  state : SendState
  sub : Sub
  dest : List Octet
  persist : Bool
  serial : Option Nat
  segs : List SendSeg
  result : Option SendResult
  finishCause : Option Cause
deriving DecidableEq, Repr

/-- The Text Store. A pool buffer is `none` when free, and otherwise its payload, empty before it is filled
(R147, R163). A send record is `none` when FREE. -/
structure Txs where
  pool : List (Option (List Octet))
  entries : List Reasm
  inbox : List InboxMsg
  timeout : Nat
  partialOn : Bool
  sends : List (Option SendRec)
  active : PerSub (Option Nat)
  staged : PerSub (Option Nat)
  commits : Nat
deriving DecidableEq, Repr

/-! ### Sleep Control Unit (R178) -/

/-- Sleep states (R179). -/
inductive Sleep where
  | awake | doze | deep | waking
deriving DecidableEq, Repr

/-- Sleep votes (R181). -/
inductive Vote where
  | stayAwake | dozeOk | deepOk
deriving DecidableEq, Repr

/-- A running calibration's counts (R178, R182): the exponent in use, whether the first slow-cycle edge has
opened the window, and the slow and fast cycles counted. -/
structure CalRun where
  n : Nat
  counting : Bool
  slow : Nat
  fast : Nat
deriving DecidableEq, Repr

/-- Calibration states (R182). -/
inductive CalState where
  | idle | pending
  | running (run : CalRun)
deriving DecidableEq, Repr

/-- A wake plan (R186). -/
structure WakePlan where
  h0 : HT
  tn : HT
  lead : Nat
  d : Nat
  wp : HT
  n : Nat
deriving DecidableEq, Repr

/-- The Sleep Control Unit (R178). -/
structure Scu where
  sleep : Sleep
  votes : PerPort Vote
  refUp : Bool
  ratio : Nat
  valid : Bool
  lastCal : Option HT
  recalExpiry : Option HT
  due : Bool
  cal : CalState
  acc : Nat
  plan : Option WakePlan
  wakeTimer : Option Nat
  dozeExpiry : Option HT
  lead : Nat
  ppm : Nat
  interval : Nat
  winExp : Nat
deriving DecidableEq, Repr

/-! ### Port units (chapter 11) -/

/-- Event kinds (R205), in the order of their codes. -/
inductive EventKind where
  | occGranted | occLost | occEnded | hoCandidate | hoWithdrawn | switchClosed | callRequest | callAnswerReq
  | callReleaseReq | callHoldReq | callResumeReq | textOutbound | textSendStopped | callState | textArrived
  | textDiscarded | textSent | subState | calDone | calOutOfRange | wakeLate | refusal | resetDone
deriving DecidableEq, Repr

/-- An event entry (R201). `cause` is the content of the cause field: a code of R205, 0 when absent, or for
HO_CANDIDATE the cell code (R206). -/
structure Event where
  kind : EventKind
  urgent : Bool
  sub : Option Sub
  subject : Option Nat
  cause : Nat
  stamp : HT
  detail : List Octet
deriving DecidableEq, Repr

/-- A full refusal latch (R200). -/
structure Latch where
  kind : Octet
  tag : Octet
  status : Nat
  ht : HT
deriving DecidableEq, Repr

/-- A port unit. `response` is the response frame of the port's latest transaction, none where that
transaction had none (R196; the model's own field, log 11). -/
structure PortUnit where
  queue : List Event
  lost : Bool
  latch : Option Latch
  oneLine : Bool
  maskU : Bool
  maskR : Bool
  quiet : Bool
  attnU : Bool
  attnR : Bool
  response : Option (List Octet)
deriving DecidableEq, Repr

/-- The output lines that no block above holds (R64, R179). -/
structure Pins where
  trxSel : Option StackPort
  trxPwr : Bool
  refEn : Bool
deriving DecidableEq, Repr

/-- The whole part. `pending` is the queue of commands; `freeCount`, `evalDue` and `evalWake` are the model's
own fields (log 4, log 7). -/
structure State where
  pending : List Instr
  tlu : Tlu
  sbt : Sbt
  ocl : Ocl
  tgu : Tgu
  cwu : PerSub Cwu
  cct : Cct
  txs : Txs
  scu : Scu
  ports : PerPort PortUnit
  pins : Pins
  inReset : Bool
  freeCount : Nat
  evalDue : Bool
  evalWake : Bool
deriving DecidableEq, Repr

/-! ### Power-on values -/

/-- An EMPTY cell-table entry (R88). -/
def CellEntry.emptyEntry : CellEntry :=
  { state := .empty, cell := none, offset := 0, level := none, count := 0, timing := none, bar := none }

/-- The default trigger configuration in ticks (R108). -/
def TrigConfig.default : TrigConfig :=
  { k := 2, h := 4, ttt := 10240, mode := .hold, repeatTicks := 64000, barTicks := 320000 }

/-- No staged configuration (R108). -/
def StagedConfig.absent : StagedConfig :=
  { k := none, h := none, ttt := none, mode := none, repeatTicks := none, barTicks := none }

/-- The Cell Watch Unit after power-on reset and after PART_RESET (R107, R126). -/
def Cwu.reset : Cwu :=
  { cells := List.replicate 16 CellEntry.emptyEntry, evalRec := none, config := TrigConfig.default,
    staged := StagedConfig.absent, trigger := .idle, switchRec := none, lateClose := false }

/-- A subscription record after power-on reset and after PART_RESET (R38). -/
def SubRecord.reset : SubRecord :=
  { bound := none, state := .detached, prior := .detached, miss := 0, serving := none, stagedWaiting := false }

/-- A context after power-on reset and after PART_RESET (R146). -/
def CallCtx.reset : CallCtx :=
  { state := .idle, sub := none, direction := none, digits := none, reference := none, audio := false,
    cause := none, started := none, connected := none, timer := none }

/-- The Call Context Table after power-on reset and after PART_RESET (R146). -/
def Cct.reset : Cct :=
  { ctxs := List.replicate 4 CallCtx.reset, setupLimit := 128000, releaseLimit := 64000,
    hold := ⟨false, false⟩, audioSel := none }

/-- The grant unit after a reset, with the window number that reset gives (R87). -/
def Tgu.reset (window : Nat) : Tgu :=
  { grant := none, window := window, used := 0, w := 1024, a := 32, stagedW := none, stagedA := none,
    tie := ⟨.sub0, .sub0, .sub0, .sub0⟩ }

/-- The text store after a reset, with the commit counter that reset gives (R162, R177). -/
def Txs.reset (commits : Nat) : Txs :=
  { pool := List.replicate 64 none, entries := List.replicate 8 .free, inbox := [], timeout := 3840000,
    partialOn := true, sends := List.replicate 4 none, active := ⟨none, none⟩, staged := ⟨none, none⟩,
    commits := commits }

/-- The Sleep Control Unit after power-on reset (R195). -/
def Scu.powerOn : Scu :=
  { sleep := .awake, votes := ⟨.stayAwake, .stayAwake, .stayAwake⟩, refUp := false, ratio := 16384000,
    valid := false, lastCal := none, recalExpiry := none, due := false, cal := .pending, acc := 0, plan := none,
    wakeTimer := none, dozeExpiry := none, lead := 64, ppm := 50, interval := 960000, winExp := 12 }

/-- A RESET_DONE entry with the code of its cause, 32 POWER_ON or 33 PART_RESET (R205, R208, R209). -/
def Event.resetDone (cause : Nat) (stamp : HT) : Event :=
  { kind := .resetDone, urgent := true, sub := none, subject := none, cause := cause, stamp := stamp, detail := [] }

/-- A port unit after a reset that queues one RESET_DONE: ATTN_U is asserted, ATTN_R is not (R208, R209). -/
def PortUnit.afterReset (cause : Nat) (stamp : HT) (response : Option (List Octet)) : PortUnit :=
  { queue := [Event.resetDone cause stamp], lost := false, latch := none, oneLine := false, maskU := false,
    maskR := false, quiet := false, attnU := true, attnR := false, response := response }

/-- The part at the release of the reset pin, with the given commands waiting and the given count of responses (the
model's own field): every block at its power-on
values (R17, R38, R63, R87, R107, R126, R146, R162, R177, R195, R208). -/
def State.powerOn (pending : List Instr) (freeCount : Nat) : State :=
  { pending := pending
    tlu := { ht := 0, source := .fast, divider := 0, anchor := ⟨none, none⟩ }
    sbt := { subs := ⟨SubRecord.reset, SubRecord.reset⟩, missLimit := 4 }
    ocl := { slots := List.replicate 48 { gen := 0, fresh := true, late := false, kept := none, occ := none } }
    tgu := Tgu.reset 0
    cwu := ⟨Cwu.reset, Cwu.reset⟩
    cct := Cct.reset
    txs := Txs.reset 0
    scu := Scu.powerOn
    ports := ⟨PortUnit.afterReset 32 0 none, PortUnit.afterReset 32 0 none, PortUnit.afterReset 32 0 none⟩
    pins := { trxSel := none, trxPwr := true, refEn := true }
    inReset := false
    freeCount := freeCount
    evalDue := false
    evalWake := false }

/-- The machine after reset: the power-on values with an empty command queue (R208). -/
def State.reset : State := State.powerOn [] 0

end Sys2Proof.Machine
end

