-- ==== Sys2Proof/Machine/Ops.lean ====
section
/-! DEFINITION. Shared operations: time comparison, octets, access to the parts of State, codes, events, the
refusal latch and the answer to a request. -/
namespace Sys2Proof.Machine

/-! ### Times (R3, R4) -/

/-- T is not before U: (T - U) mod 2^32 is less than 2^31 (R3). -/
def notBefore (t u : HT) : Bool := decide ((t - u).toNat < 2 ^ 31)

/-- T is before U (R3). -/
def before (t u : HT) : Bool := !notBefore t u

/-- T is not after `now`: it has passed (R3). -/
def passed (t now : HT) : Bool := notBefore now t

/-- An optional expiry that is held and has passed (R4). -/
def expired (e : Option HT) (now : HT) : Bool :=
  match e with
  | some t => passed t now
  | none => false

/-- `t` plus a number of ticks, modulo 2^32. -/
def addTicks (t : HT) (n : Nat) : HT := t + BitVec.ofNat 32 n

/-- One hyperframe in ticks. -/
def hyperframe : Nat := 327680

/-! ### Octets (R207) -/

/-- One octet. -/
def oct8 (n : Nat) : List Octet := [BitVec.ofNat 8 n]

/-- Two octets, little-endian (R207). -/
def oct16 (n : Nat) : List Octet := [BitVec.ofNat 8 n, BitVec.ofNat 8 (n / 256)]

/-- Four octets, little-endian (R207). -/
def oct32 (n : Nat) : List Octet :=
  [BitVec.ofNat 8 n, BitVec.ofNat 8 (n / 256), BitVec.ofNat 8 (n / 65536), BitVec.ofNat 8 (n / 16777216)]

/-- An HT value in four octets (R207). -/
def octHt (t : HT) : List Octet := oct32 t.toNat

/-- A signed quantity in one octet, two's complement (R207). -/
def octInt8 (z : Int) : List Octet := [BitVec.ofInt 8 z]

/-- A signed quantity in two octets, two's complement (R207). -/
def octInt16 (z : Int) : List Octet := oct16 (BitVec.ofInt 16 z).toNat

/-- A filtered level F, given negated as an unsigned 16-bit value (R206; in responses log 31). -/
def octLevel (f : Int) : List Octet := oct16 (-f).toNat

/-- A flag in one octet (R207). -/
def octFlag (b : Bool) : List Octet := oct8 (if b then 1 else 0)

/-- The content of a response body: an octet the manual gives, or `none` for an octet it leaves open. -/
abbrev Out := List (Option Octet)

/-- Octets the manual gives. -/
def lit (l : List Octet) : Out := l.map some

/-- An optional field of a response: a presence octet, then the field's octets; the octets of an absent field
are open (R207, log 7). -/
def optional (width : Nat) (x : Option (List Octet)) : Out :=
  match x with
  | some l => some 1 :: lit l
  | none => some 0 :: List.replicate width none

/-- A digit string: a length octet and the symbols; absent is length 0 (R207). -/
def octString (d : Option (List Octet)) : List Octet :=
  match d with
  | some l => BitVec.ofNat 8 l.length :: l
  | none => [0]

/-! ### Access to the parts of State -/

/-- The value of one subscription. -/
def PerSub.get {α : Type} (x : PerSub α) : Sub → α
  | .sub0 => x.sub0
  | .sub1 => x.sub1

/-- Replace the value of one subscription. -/
def PerSub.set {α : Type} (x : PerSub α) (i : Sub) (v : α) : PerSub α :=
  match i with
  | .sub0 => { x with sub0 := v }
  | .sub1 => { x with sub1 := v }

/-- The value of one port. -/
def PerPort.get {α : Type} (x : PerPort α) : Port → α
  | .spt0 => x.spt0
  | .spt1 => x.spt1
  | .apt => x.apt

/-- Replace the value of one port. -/
def PerPort.set {α : Type} (x : PerPort α) (p : Port) (v : α) : PerPort α :=
  match p with
  | .spt0 => { x with spt0 := v }
  | .spt1 => { x with spt1 := v }
  | .apt => { x with apt := v }

/-- A stack port as one of the three ports. -/
def portOf : StackPort → Port
  | .spt0 => .spt0
  | .spt1 => .spt1

/-- A stack port by its code; only the APT is none. -/
def stackOf : Port → Option StackPort
  | .spt0 => some .spt0
  | .spt1 => some .spt1
  | .apt => none

/-- The current HT. -/
def State.now (s : State) : HT := s.tlu.ht

/-- A subscription's record. -/
def State.sub (s : State) (i : Sub) : SubRecord := s.sbt.subs.get i

/-- Update a subscription's record. -/
def State.modSub (s : State) (i : Sub) (f : SubRecord → SubRecord) : State :=
  { s with sbt := { s.sbt with subs := s.sbt.subs.set i (f (s.sbt.subs.get i)) } }

/-- A subscription's anchor, present exactly when its timing is valid (R6). -/
def State.anchor (s : State) (i : Sub) : Option HT := s.tlu.anchor.get i

/-- Replace a subscription's anchor. -/
def State.setAnchor (s : State) (i : Sub) (a : Option HT) : State :=
  { s with tlu := { s.tlu with anchor := s.tlu.anchor.set i a } }

/-- A subscription's cell watch state. -/
def State.watch (s : State) (i : Sub) : Cwu := s.cwu.get i

/-- Update a subscription's cell watch state. -/
def State.modWatch (s : State) (i : Sub) (f : Cwu → Cwu) : State :=
  { s with cwu := s.cwu.set i (f (s.cwu.get i)) }

/-- A port unit. -/
def State.unit (s : State) (p : Port) : PortUnit := s.ports.get p

/-- Update a port unit. -/
def State.modUnit (s : State) (p : Port) (f : PortUnit → PortUnit) : State :=
  { s with ports := s.ports.set p (f (s.ports.get p)) }

/-- The record in a calendar slot. -/
def State.occ (s : State) (i : Nat) : Option Occasion :=
  match s.ocl.slots[i]? with
  | some sl => sl.occ
  | none => none

/-- Update a calendar slot. -/
def State.modSlot (s : State) (i : Nat) (f : CalSlot → CalSlot) : State :=
  { s with ocl := { s.ocl with slots := s.ocl.slots.modify i f } }

/-- A call context. -/
def State.ctx (s : State) (i : Nat) : Option CallCtx := s.cct.ctxs[i]?

/-- Replace a call context. -/
def State.setCtx (s : State) (i : Nat) (c : CallCtx) : State :=
  { s with cct := { s.cct with ctxs := s.cct.ctxs.set i c } }

/-- The send record with an id, none when FREE. -/
def State.send (s : State) (i : Nat) : Option SendRec :=
  match s.txs.sends[i]? with
  | some r => r
  | none => none

/-- Replace a send record. -/
def State.setSend (s : State) (i : Nat) (r : Option SendRec) : State :=
  { s with txs := { s.txs with sends := s.txs.sends.set i r } }

/-- A subscription is bound to the requesting port (R21). -/
def State.boundTo (s : State) (i : Sub) (p : Port) : Bool :=
  match (s.sub i).bound with
  | some q => decide (portOf q = p)
  | none => false

/-- Both subscriptions, in order. -/
def allSubs : List Sub := [.sub0, .sub1]

/-! ### Codes (R199, R205) -/

/-- Subscription code (R206). -/
def Sub.code : Sub → Nat
  | .sub0 => 0
  | .sub1 => 1

/-- Stack port code: SPT0 0, SPT1 1 (log 8). -/
def StackPort.code : StackPort → Nat
  | .spt0 => 0
  | .spt1 => 1

/-- The code shown on TRX_SEL and AUDIO_SEL: 0 none, 1 SPT0, 2 SPT1 (11.9). -/
def selCode : Option StackPort → Nat
  | none => 0
  | some .spt0 => 1
  | some .spt1 => 2

/-- Subscription state code (R205). -/
def SubState.code : SubState → Nat
  | .detached => 0
  | .camped => 1
  | .switching => 2
  | .absent => 3

/-- Occasion kind code (R205, R207). -/
def OccKind.code : OccKind → Nat
  | .page => 0
  | .meas => 1
  | .text => 2
  | .traffic => 3
  | .access => 4
  | .switch => 5

/-- Base class of an occasion kind (R40). -/
def OccKind.base : OccKind → Nat
  | .switch => 3
  | .access => 3
  | .traffic => 2
  | .page => 1
  | .text => 1
  | .meas => 0

/-- Occasion state code, in the order of R39. -/
def OccState.code : OccState → Nat
  | .waiting => 0
  | .granted => 1
  | .awaitingDone => 2

/-- Cell-table entry state code, in the order of the table of R89. CELL_TABLE_READ, whose response R207 gives no state
codes, carries it as an event would (R205, log 35). -/
def EntryState.code : EntryState → Nat
  | .empty => 0
  | .listed => 1
  | .tracked => 2
  | .serving => 3

/-- Trigger mode code (R109). -/
def TriggerMode.code : TriggerMode → Nat
  | .hold => 0
  | .restart => 1

/-- Trigger state code, in the order of R112. -/
def Trigger.code : Trigger → Nat
  | .idle => 0
  | .running _ _ _ => 1
  | .reported _ _ => 2

/-- Context state code, in the order of R128. -/
def CtxState.code : CtxState → Nat
  | .idle => 0
  | .dialing => 1
  | .setup => 2
  | .alerting => 3
  | .connected => 4
  | .held => 5
  | .releasing => 6

/-- Direction code, in the order of R127. -/
def Direction.code : Direction → Nat
  | .mo => 0
  | .mt => 1

/-- Send record state code, in the order of R163; FREE is 0. -/
def SendState.code : SendState → Nat
  | .composing => 1
  | .staged => 2
  | .sending => 3
  | .kept => 4

/-- Segment outcome code, in the order of R163. -/
def SegOutcome.code : SegOutcome → Nat
  | .pending => 0
  | .taken => 1
  | .sent => 2
  | .failed _ => 3
  | .skipped => 4

/-- Send result code, in the order of R163. -/
def SendResult.code : SendResult → Nat
  | .ok => 0
  | .partialSent => 1
  | .failed => 2
  | .cancelled => 3

/-- Sleep state code, in the order of R178. -/
def Sleep.code : Sleep → Nat
  | .awake => 0
  | .doze => 1
  | .deep => 2
  | .waking => 3

/-- Vote code (R181). -/
def Vote.code : Vote → Nat
  | .stayAwake => 0
  | .dozeOk => 1
  | .deepOk => 2

/-- Calibration state code, in the order of R178. -/
def CalState.code : CalState → Nat
  | .idle => 0
  | .pending => 1
  | .running _ => 2

/-- Cause codes (R205). -/
def Cause.code : Cause → Nat
  | .busy => 1
  | .switching => 2
  | .callOnOtherLine => 3
  | .allowanceExhausted => 4
  | .notReady => 5
  | .retimed => 6
  | .missed => 7
  | .preempted => 8
  | .callEnded => 9
  | .sendFinished => 10
  | .switchTimeout => 11
  | .userHangup => 12
  | .otherLineActive => 13
  | .noStackAnswer => 14
  | .releaseTimeout => 15
  | .detached => 16
  | .stackAbsent => 17
  | .network => 18
  | .evicted => 19
  | .timeout => 20
  | .cancelled => 21
  | .lineLost => 22
  | .segmentFailed => 23
  | .userAbandon => 24
  | .camp => 25
  | .recamp => 26
  | .detach => 27
  | .missLimit => 28
  | .resume => 29
  | .switchBegin => 30
  | .switchClosed => 31
  | .powerOn => 32
  | .partReset => 33

/-- The cause field's code: 0 when no cause is present (R205). -/
def causeCode : Option Cause → Nat
  | none => 0
  | some c => c.code

/-- Event kind codes (R205). -/
def EventKind.code : EventKind → Nat
  | .occGranted => 1
  | .occLost => 2
  | .occEnded => 3
  | .hoCandidate => 4
  | .hoWithdrawn => 5
  | .switchClosed => 6
  | .callRequest => 7
  | .callAnswerReq => 8
  | .callReleaseReq => 9
  | .callHoldReq => 10
  | .callResumeReq => 11
  | .textOutbound => 12
  | .textSendStopped => 13
  | .callState => 14
  | .textArrived => 15
  | .textDiscarded => 16
  | .textSent => 17
  | .subState => 18
  | .calDone => 19
  | .calOutOfRange => 20
  | .wakeLate => 21
  | .refusal => 22
  | .resetDone => 23

/-- The status codes of R199. -/
inductive Status where
  | ok | duplicateSegment | unsupported | malformed | badField | notBound | subState | noTiming | tooSoon
  | duplicate | calendarFull | quota | staleHandle | occState | late | adjustRange | targetBarred | callState
  | noContext | otherLineActive | storeFull | sendQueueFull | sendState | unfilled | segmentRange | totalMismatch
  | busyCal
deriving DecidableEq, Repr

/-- Status codes (R199). -/
def Status.code : Status → Nat
  | .ok => 0
  | .duplicateSegment => 1
  | .unsupported => 2
  | .malformed => 3
  | .badField => 4
  | .notBound => 5
  | .subState => 6
  | .noTiming => 7
  | .tooSoon => 8
  | .duplicate => 9
  | .calendarFull => 10
  | .quota => 11
  | .staleHandle => 12
  | .occState => 13
  | .late => 14
  | .adjustRange => 15
  | .targetBarred => 16
  | .callState => 17
  | .noContext => 18
  | .otherLineActive => 19
  | .storeFull => 20
  | .sendQueueFull => 21
  | .sendState => 22
  | .unfilled => 23
  | .segmentRange => 24
  | .totalMismatch => 25
  | .busyCal => 26

/-! ### Event queues (R201, R202) -/

/-- An event arrives at a port's queue (R201): appended below 32 entries; at 32 an URGENT arrival displaces
the oldest ROUTINE entry, and otherwise the arrival is dropped; a loss sets the lost flag. -/
def PortUnit.enqueue (u : PortUnit) (e : Event) : PortUnit :=
  if u.queue.length < 32 then { u with queue := u.queue ++ [e] }
  else if e.urgent && u.queue.any (fun x => !x.urgent) then
    { u with queue := u.queue.eraseP (fun x => !x.urgent) ++ [e], lost := true }
  else { u with lost := true }

/-- Queue an event at a port. -/
def post (p : Port) (e : Event) (s : State) : State := s.modUnit p (fun u => u.enqueue e)

/-- Queue an event at the port bound to a subscription; with no bound port it is dropped (R202). -/
def postBound (i : Sub) (e : Event) (s : State) : State :=
  match (s.sub i).bound with
  | some q => post (portOf q) e s
  | none => s

/-- An event about a subscription, stamped with the current HT (R201, R202). -/
def mkEvent (s : State) (kind : EventKind) (urgent : Bool) (sub : Option Sub) (subject : Option Nat)
    (cause : Option Cause) (detail : List Octet) : Event :=
  { kind := kind, urgent := urgent, sub := sub, subject := subject, cause := causeCode cause, stamp := s.now,
    detail := detail }

/-! ### Notices of the sleep unit (R62, R86, R130, R181)

A notice only records that the event in progress owes an evaluation; the evaluation itself is made once, at
the end of the event (log 4). -/

/-- A notice that is evaluated and does not by itself wake DEEP. -/
def noteEval (s : State) : State := { s with evalDue := true }

/-- A notice that is evaluated and wakes DEEP when `wake` holds (R191). -/
def noteWake (wake : Bool) (s : State) : State := { s with evalDue := true, evalWake := s.evalWake || wake }

/-! ### Answering a request (R197, R199, R200) -/

/-- What a kind's own rule makes of a request: taken, with the new state and the response body, or refused. -/
inductive Reply where
  | taken (st : Status) (s : State) (body : Out)
  | refused (st : Status) (body : Out)

/-- Fill the open octets of a response body with free values (log 7). -/
def fillFrom (count : Nat) (at_ : Nat) : Out → List Octet
  | [] => []
  | some o :: rest => o :: fillFrom count (at_ + 1) rest
  | none :: rest => Config.absentOctet count at_ :: fillFrom count (at_ + 1) rest

/-- The response frame: status, tag echo, body length, body (R197). -/
def responseFrame (count : Nat) (tag : Octet) (st : Status) (body : Out) : List Octet :=
  BitVec.ofNat 8 st.code :: tag :: BitVec.ofNat 8 body.length :: fillFrom count 0 body

/-- Drive a response at a port. -/
def respond (p : Port) (tag : Octet) (st : Status) (body : Out) (s : State) : State :=
  { s.modUnit p (fun u => { u with response := some (responseFrame s.freeCount tag st body) }) with
    freeCount := s.freeCount + 1 }

/-- The port's latest transaction had no response (R196). -/
def noResponse (p : Port) (s : State) : State := s.modUnit p (fun u => { u with response := none })

/-- The REFUSAL event: URGENT, with the kind octet, the tag and the status (R200, R206). -/
def refusalEvent (s : State) (kind tag : Octet) (st : Status) : Event :=
  mkEvent s .refusal true none none none [kind, tag, BitVec.ofNat 8 st.code]

/-- A refusal on a port (R200): an empty latch takes the record and, unless quiet, REFUSAL is queued; a full
latch keeps its record and queues nothing. -/
def latchRefusal (p : Port) (kind tag : Octet) (st : Status) (s : State) : State :=
  match (s.unit p).latch with
  | some _ => s
  | none =>
    let s1 := s.modUnit p (fun u =>
      { u with latch := some { kind := kind, tag := tag, status := st.code, ht := s.now } })
    if (s.unit p).quiet then s1 else post p (refusalEvent s kind tag st) s1

end Sys2Proof.Machine
end

