-- ==== Sys2Proof/Machine/Flags.lean ====
section
/-! DEFINITION. The status flags the part derives from its state: attention lines, in-call status, window and
anchor positions. -/
namespace Sys2Proof.Machine

/-- The queue holds an unmasked URGENT entry (R204). -/
def PortUnit.hasUrgent (u : PortUnit) : Bool := !u.maskU && u.queue.any (fun e => e.urgent)

/-- The queue holds an unmasked ROUTINE entry (R204). -/
def PortUnit.hasRoutine (u : PortUnit) : Bool := !u.maskR && u.queue.any (fun e => !e.urgent)

/-- ATTN_U by the attention mode, the masks and the queue (R204). -/
def PortUnit.wantU (u : PortUnit) : Bool := if u.oneLine then u.hasUrgent || u.hasRoutine else u.hasUrgent

/-- ATTN_R by the attention mode, the masks and the queue (R204). -/
def PortUnit.wantR (u : PortUnit) : Bool := if u.oneLine then false else u.hasRoutine

/-- A port unit with its attention lines driven as R204 states; both are deasserted while the reset pin is
asserted (R208). -/
def PortUnit.drive (inReset : Bool) (u : PortUnit) : PortUnit :=
  { u with attnU := !inReset && u.wantU, attnR := !inReset && u.wantR }

/-- Every port's attention lines follow its queue, masks and mode in the same event (R204). -/
def driveAttention (s : State) : State :=
  { s with ports := ⟨s.ports.spt0.drive s.inReset, s.ports.spt1.drive s.inReset, s.ports.apt.drive s.inReset⟩ }

/-- The end of an event: the lines are driven and the state is the next one. -/
def commit (s : State) : Host.Outcome State Fault Refusal := .next (driveAttention s)

/-- A context counts as in call: CONNECTED or HELD (R128). -/
def CtxState.inCall : CtxState → Bool
  | .connected => true
  | .held => true
  | _ => false

/-- A context of a subscription: not IDLE, and its sub field names the subscription (R127). -/
def CallCtx.isOf (c : CallCtx) (i : Sub) : Bool := decide (c.state ≠ .idle) && decide (c.sub = some i)

/-- A subscription is in call while one of its contexts is CONNECTED or HELD (R128). -/
def inCall (s : State) (i : Sub) : Bool := s.cct.ctxs.any (fun c => c.isOf i && c.state.inCall)

/-- The number of a subscription's contexts (R127). -/
def ctxCount (s : State) (i : Sub) : Nat := s.cct.ctxs.countP (fun c => c.isOf i)

/-- The HT slot number, floor(HT / 16) (R5). -/
def slotNumber (t : HT) : Nat := t.toNat / 16

/-- A tune-away window opening is due: the HT slot number lies in another window than the one held (R65, R82). -/
def windowDue (s : State) : Bool := decide (slotNumber s.now / s.tgu.w ≠ s.tgu.window)

/-- A subscription's serving cell, while it has a serving entry (R18, R37). -/
def servingCell (s : State) (i : Sub) : Option Cell :=
  match (s.sub i).serving with
  | some k => match (s.watch i).cells[k]? with
    | some e => e.cell
    | none => none
  | none => none

/-- The sleep state keeps the fast reference off or not yet ready: DEEP or WAKING (R68, R179). -/
def Sleep.notReady : Sleep → Bool
  | .deep => true
  | .waking => true
  | _ => false

/-- HT counts from the fast reference: the source is FAST and the reference has been reported ready (R1, R17). -/
def countingFast (s : State) : Bool := decide (s.tlu.source = .fast) && s.scu.refUp

end Sys2Proof.Machine
end

