-- ==== Sys2Proof/Machine/TimelineOps.lean ====
section
/-! DEFINITION. The Timeline Unit's operations: network time, normalisation, conversion and the advance of HT. -/
namespace Sys2Proof.Machine

/-- A signed difference of HT values reduced into one hyperframe, non-negative (R7, R9, R57). -/
def reduceHyper (d : HT) : Nat := (d.toInt % 327680).toNat

/-- A subscription's position (HT - anchor) mod 2^32 (R6). -/
def position (ht anchor : HT) : Nat := (ht - anchor).toNat

/-- The network frame and tick at an HT value under an anchor (R7). -/
def networkTime (anchor t : HT) : Nat × Nat :=
  (reduceHyper (t - anchor) / 320, reduceHyper (t - anchor) % 320)

/-- An anchor value normalised against an HT (R9). -/
def normalise (ht a : HT) : HT := ht - BitVec.ofNat 32 (reduceHyper (ht - a))

/-- The tick offset of a coordinate pair in its hyperframe (R14). -/
def tickOffset (frame slot : Nat) : Nat := frame * 320 + slot * 16

/-- The earliest start E: HT and the guard of two slots (R14). -/
def earliestStart (ht : HT) : HT := addTicks ht 32

/-- The first candidate T of a conversion (R14). -/
def firstCandidate (anchor : HT) (frame slot : Nat) : HT := addTicks anchor (tickOffset frame slot)

/-- One hyperframe later when T is before E (R14, step 4). -/
def raiseOnce (e t : HT) : HT := if before t e then addTicks t hyperframe else t

/-- The start of a coordinate pair: the first candidate, raised while it is before E; no more than two
additions are ever made (R14). -/
def convert (ht anchor : HT) (frame slot : Nat) : HT :=
  raiseOnce (earliestStart ht) (raiseOnce (earliestStart ht) (firstCandidate anchor frame slot))

/-- The anchor after HT becomes `ht'`: one hyperframe later when the position would reach 327,680 (R8). -/
def advanceAnchor (ht' : HT) (a : Option HT) : Option HT :=
  match a with
  | some x => some (if position ht' x = hyperframe then addTicks x hyperframe else x)
  | none => none

/-- One advance of HT, with the anchor advances that belong to it (R1, R8). -/
def advanceHt (s : State) : State :=
  { s with tlu := { s.tlu with
      ht := s.tlu.ht + 1
      anchor := ⟨advanceAnchor (s.tlu.ht + 1) s.tlu.anchor.sub0, advanceAnchor (s.tlu.ht + 1) s.tlu.anchor.sub1⟩ } }

/-- The octets of a subscription's network time at the current HT: a valid flag, then frame and tick (R16).
The valid flag is the one presence octet of the two (log 28). -/
def timeField (s : State) (i : Sub) : Out :=
  optional 4 (match s.anchor i with
    | some a => some (oct16 (networkTime a s.now).1 ++ oct16 (networkTime a s.now).2)
    | none => none)

/-- The frame and tick octets of a subscription's network time at the current HT (R13, R25). -/
def frameTick (anchor ht : HT) : List Octet :=
  oct16 (networkTime anchor ht).1 ++ oct16 (networkTime anchor ht).2

end Sys2Proof.Machine
end

