-- ==== Sys2Proof/Machine/CalendarOps.lean ====
section
/-! DEFINITION. The Occasion Calendar's operations: order, handles, making, resolving, re-arming, removing and
re-timing records, and the release of a grant that removals share. -/
namespace Sys2Proof.Machine

/-! ### Order and handles (R41 to R44) -/

/-- Calendar order: by start, then higher base class, then lower slot (R43). -/
def precedes (x y : Nat × Occasion) : Bool :=
  if x.2.start = y.2.start then
    if x.2.kind.base = y.2.kind.base then decide (x.1 < y.1) else decide (y.2.kind.base < x.2.kind.base)
  else before x.2.start y.2.start

/-- Insert a record into an ordered list (R43). -/
def insertOrdered (x : Nat × Occasion) : List (Nat × Occasion) → List (Nat × Occasion)
  | [] => [x]
  | y :: rest => if precedes x y then x :: y :: rest else y :: insertOrdered x rest

/-- The records held, with their slots, by slot number. -/
def records (s : State) : List (Nat × Occasion) :=
  s.ocl.slots.zipIdx.filterMap (fun p => match p.1.occ with
    | some o => some (p.2, o)
    | none => none)

/-- The calendar list in the order of R43. -/
def calendarOrder (s : State) : List (Nat × Occasion) := (records s).foldr insertOrdered []

/-- The slots of the records that meet a condition, in calendar order. -/
def slotsWhere (c : Occasion → Bool) (s : State) : List Nat :=
  ((calendarOrder s).filter (fun x => c x.2)).map (fun x => x.1)

/-- The handle of the record in a slot: generation x 64 + slot number (R41). -/
def handleAt (s : State) (i : Nat) : Nat :=
  match s.ocl.slots[i]? with
  | some sl => sl.gen * 64 + i
  | none => i

/-- The number of records held (R44). -/
def recordCount (s : State) : Nat := (records s).length

/-- The number of records of a subscription (R44). -/
def subRecordCount (s : State) (i : Sub) : Nat := ((records s).filter (fun x => decide (x.2.sub = i))).length

/-- The judgements of a handle (R42). -/
inductive Judgement where
  | outOfRange
  | stale
  | late (sub : Sub)
  | live (slot : Nat) (o : Occasion) (late : Bool)
deriving DecidableEq, Repr

/-- A handle judged against the calendar (R42). -/
def judge (h : Nat) (s : State) : Judgement :=
  if 48 ≤ h % 64 then .outOfRange
  else match s.ocl.slots[h % 64]? with
    | none => .outOfRange
    | some sl =>
      if sl.gen ≠ h / 64 then .stale
      else match sl.occ with
        | some o => .live (h % 64) o sl.late
        | none => if sl.late then (match sl.kept with
            | some k => .late k
            | none => .stale) else .stale

/-! ### Events about occasions (R206) -/

/-- OCC_LOST: the kind and the start of the lost occurrence (R73, R206). -/
def lostEvent (s : State) (i : Nat) (o : Occasion) (c : Cause) (start : HT) : Event :=
  mkEvent s .occLost false (some o.sub) (some (handleAt s i)) (some c) (oct8 o.kind.code ++ octHt start)

/-- OCC_ENDED: the kind, and the end for MISSED or the start of the occurrence otherwise (R206). -/
def endedEvent (s : State) (i : Nat) (o : Occasion) (c : Cause) (t : HT) : Event :=
  mkEvent s .occEnded false (some o.sub) (some (handleAt s i)) (some c) (oct8 o.kind.code ++ octHt t)

/-! ### Notices to the sleep unit (R62, R191) -/

/-- An inserted start wakes DEEP when its subscription is not ABSENT and it lies before Wp + L (R191). -/
def insertionWakes (s : State) (i : Sub) (start : HT) : Bool :=
  match s.scu.plan with
  | some p => decide ((s.sub i).state ≠ .absent) && before start (addTicks p.wp p.lead)
  | none => false

/-- An insertion notice with the new start (R62). -/
def noteInsertion (i : Sub) (start : HT) (s : State) : State := noteWake (insertionWakes s i start) s

/-- The earliest eligible start: the first WAITING record whose subscription is not ABSENT (R62). -/
def earliestEligible (s : State) : Option HT :=
  match (calendarOrder s).find? (fun x =>
      decide (x.2.state = .waiting) && decide ((s.sub x.2.sub).state ≠ .absent)) with
  | some x => some x.2.start
  | none => none

/-! ### Making a record (R41, R47, R48) -/

/-- The free slot with the lowest number (R41). -/
def freeSlot (s : State) : Option Nat := s.ocl.slots.findIdx? (fun sl => sl.occ.isNone)

/-- A slot taken for a record: the fresh flag is cleared, or the generation counts up; the late mark is
cleared (R41). -/
def CalSlot.take (sl : CalSlot) (o : Occasion) : CalSlot :=
  { gen := if sl.fresh then sl.gen else (sl.gen + 1) % 1024, fresh := false, late := false, kept := none,
    occ := some o }

/-- Make a record in the slot R41 chooses and give the insertion notice (R47); the slot is returned. -/
def makeRecord (o : Occasion) (s : State) : Option (Nat × State) :=
  match freeSlot s with
  | some i => some (i, noteInsertion o.sub o.start (s.modSlot i (fun sl => sl.take o)))
  | none => none

/-! ### Release of the grant (R75, R142) -/

/-- End the current grant: the grant record becomes absent, TRX_SEL returns to none, the class-3 hold is
cleared and the sleep unit is told (R74, R75, R86, R142). The notice to the subscription table is the
caller's. -/
def dropGrant (s : State) : State :=
  match s.tgu.grant with
  | some g => noteEval
      { s with
        tgu := { s.tgu with grant := none }
        pins := { s.pins with trxSel := none }
        cct := { s.cct with hold := s.cct.hold.set g.sub false } }
  | none => s

/-- The record in a slot holds the current grant. -/
def holdsGrant (s : State) (i : Nat) : Bool :=
  match s.tgu.grant with
  | some g => decide (g.handle = handleAt s i)
  | none => false

/-! ### Resolution, re-arm and removal (R50 to R52, R58) -/

/-- Set a slot's late mark and keep its subscription (R41, R50). -/
def markLate (i : Nat) (sub : Sub) (s : State) : State :=
  s.modSlot i (fun sl => { sl with late := true, kept := some sub })

/-- Clear a slot's late mark (R41, R49). -/
def clearLate (i : Nat) (s : State) : State := s.modSlot i (fun sl => { sl with late := false, kept := none })

/-- The record leaves by re-arm: the slot is free, and its late mark and kept subscription stay (R51, R52). -/
def leaveByRearm (i : Nat) (s : State) : State := noteEval (s.modSlot i (fun sl => { sl with occ := none }))

/-- The record leaves by another removal: the slot is free and its late mark is cleared (R52). -/
def leave (i : Nat) (s : State) : State :=
  noteEval (s.modSlot i (fun sl => { sl with occ := none, late := false, kept := none }))

/-- The shift between two anchors, in -163,840..163,839 (R57). The difference is read as a signed value
(log 9). -/
def shift (a0 a1 : HT) : Int :=
  if reduceHyper (a1 - a0) < 163840 then (reduceHyper (a1 - a0) : Int) else (reduceHyper (a1 - a0) : Int) - 327680

/-- A time moved by a signed number of ticks. -/
def addShift (t : HT) (d : Int) : HT := t + BitVec.ofInt 32 d

/-- The anchor a record is placed under: its subscription's anchor, or its own when that is invalid. -/
def anchorFor (s : State) (o : Occasion) : HT :=
  match s.anchor o.sub with
  | some a => a
  | none => o.placement

/-- The record waits at a start under the current anchor, with its insertion notice (R51, R58, R59). -/
def putWaiting (i : Nat) (o : Occasion) (start : HT) (s : State) : State :=
  let o1 := { o with start := start, state := .waiting, endHt := none, grace := none, placement := anchorFor s o }
  noteInsertion o.sub start (s.modSlot i (fun sl => { sl with occ := some o1 }))

/-- The record is removed with OCC_LOST, cause RETIMED (R58), and its late mark is cleared (R52, log 17).
`lostStart` is the start the event names (log 16). -/
def loseRetimed (i : Nat) (o : Occasion) (lostStart : HT) (s : State) : State :=
  postBound o.sub (lostEvent s i o .retimed lostStart) (leave i s)

/-- The number of whole periods that bring a start that is before E to E or later (R58). -/
def periodsTo (e t : HT) (step : Nat) : Nat := ((e - t).toNat + step - 1) / step

/-- A candidate start is placed against E = HT + 32 (R58): kept when not before E; a periodic record advances by
whole periods, each counting off one occurrence; a record that has none left, or is one-shot, is lost. -/
def placeCandidate (i : Nat) (o : Occasion) (cand lostStart : HT) (s : State) : State :=
  if notBefore cand (earliestStart s.now) then putWaiting i o cand s
  else if o.period = 0 then loseRetimed i o lostStart s
  else
    let k := periodsTo (earliestStart s.now) cand (o.period * 320)
    if o.remaining ≠ 0 ∧ o.remaining ≤ k then loseRetimed i o lostStart s
    else putWaiting i
      { o with frame := (o.frame + k * o.period) % 1024, remaining := if o.remaining = 0 then 0 else o.remaining - k }
      (addTicks cand (k * (o.period * 320))) s

/-- The record after the first two steps of an advance (R51): the staged period takes effect, the nominal start
and the coordinates move by the period, and the remaining count counts down unless unbounded. -/
def advanced (o : Occasion) : Occasion :=
  let p := match o.stagedPeriod with
    | some q => q
    | none => o.period
  { o with
    period := p
    stagedPeriod := none
    start := addTicks o.start (p * 320)
    frame := (o.frame + p) % 1024
    remaining := if o.remaining = 0 then 0 else o.remaining - 1 }

/-- Align a record to the current anchor by a shift: a shift of 0 leaves its start as it is (log 36), another gives a
candidate that R58 places (R51, R57). -/
def align (d : Int) (i : Nat) (o : Occasion) (s : State) : State :=
  if d = 0 then putWaiting i o o.start s else placeCandidate i o (addShift o.start d) o.start s

/-- Re-arm after a resolution (R51): a one-shot or exhausted record is removed, another advances and is aligned
to the current anchor. -/
def rearm (i : Nat) (o : Occasion) (s : State) : State :=
  if o.period = 0 ∨ o.remaining = 1 then leaveByRearm i s
  else align (shift o.placement (anchorFor s o)) i (advanced o) s

/-- Resolutions of an occurrence (R50). -/
inductive Resolution where
  | done | missed | preempted | lost | passedOver
deriving DecidableEq, Repr

/-- The late mark a resolution sets: MISSED and PREEMPTED set it (R50). -/
def Resolution.marksLate : Resolution → Bool
  | .missed => true
  | .preempted => true
  | _ => false

/-- Resolve the occurrence of the record in a slot and re-arm it (R50, R51). -/
def resolve (r : Resolution) (i : Nat) (s : State) : State :=
  match s.occ i with
  | some o => rearm i o (if r.marksLate then markLate i o.sub s else s)
  | none => s

/-- The record of a grant just released resolves PREEMPTED: OCC_ENDED goes to its bound port, and then the record
re-arms (R70, R76). -/
def resolvePreempted (g : Grant) (s : State) : State :=
  match s.occ (g.handle % 64) with
  | some o => resolve .preempted (g.handle % 64)
      (postBound g.sub (endedEvent s (g.handle % 64) o .preempted o.start) s)
  | none => s

/-- Remove the record in a slot (R52). A GRANTED record releases the transceiver first; `k` is what the
subscription table does at that release (R85), after which the record leaves if it is still held. -/
def removeRecord (k : Sub → State → State) (i : Nat) (s : State) : State :=
  match s.occ i with
  | some o => leave i (if holdsGrant s i then k o.sub (dropGrant s) else s)
  | none => s

/-- Remove the records of a list of slots that still meet a condition, each with OCC_ENDED of a cause to its
bound port (R60, R61). -/
def removeLinked (k : Sub → State → State) (c : Occasion → Bool) (cause : Cause) : List Nat → State → State
  | [], s => s
  | i :: rest, s =>
    match s.occ i with
    | some o =>
      if c o then removeLinked k c cause rest
        (postBound o.sub (endedEvent s i o cause o.start) (removeRecord k i s))
      else removeLinked k c cause rest s
    | none => removeLinked k c cause rest s

/-- A TRAFFIC or ACCESS record linked to a context (R60). -/
def linkedToCall (ctx : Nat) (o : Occasion) : Bool :=
  (decide (o.kind = .traffic) || decide (o.kind = .access)) && decide (o.callLink = some ctx)

/-- A TEXT record linked to a send (R61). -/
def linkedToSend (id : Nat) (o : Occasion) : Bool := decide (o.kind = .text) && decide (o.sendLink = some id)

/-- The removal linked to a context that has become IDLE, in calendar order (R60). -/
def removeForCall (k : Sub → State → State) (ctx : Nat) (s : State) : State :=
  removeLinked k (linkedToCall ctx) .callEnded (slotsWhere (linkedToCall ctx) s) s

/-- The removal linked to a send that has finished, in calendar order (R61). -/
def removeForSend (k : Sub → State → State) (id : Nat) (s : State) : State :=
  removeLinked k (linkedToSend id) .sendFinished (slotsWhere (linkedToSend id) s) s

/-! ### Re-timing (R57, R58) -/

/-- Re-time the WAITING records of a list of slots by one shift (R57, R58). -/
def retimeSlots (d : Int) : List Nat → State → State
  | [], s => s
  | i :: rest, s =>
    match s.occ i with
    | some o => retimeSlots d rest (align d i o s)
    | none => retimeSlots d rest s

/-- The records an anchor change moves: WAITING, of the subscription, not SWITCH (R57). -/
def retimed (sub : Sub) (o : Occasion) : Bool :=
  decide (o.sub = sub) && decide (o.state = .waiting) && decide (o.kind ≠ .switch)

/-- The anchor-change notice: the subscription's WAITING records are re-timed (R10, R57). -/
def retime (sub : Sub) (old : Option HT) (new : HT) (s : State) : State :=
  match old with
  | some a => retimeSlots (shift a new) (slotsWhere (retimed sub) s) s
  | none => s

/-- Set a subscription's anchor to a normalised value and give the anchor-change notice (R9, R10). -/
def setAnchorRetimed (sub : Sub) (value : HT) (s : State) : State :=
  retime sub (s.anchor sub) (normalise s.now value) (s.setAnchor sub (some (normalise s.now value)))

end Sys2Proof.Machine
end

