-- ==== Sys2Proof/Machine/SleepOps.lean ====
section
/-! DEFINITION. The Sleep Control Unit's operations: the four sleep states, the wake plan, calibration and the
evaluation made at the end of an event. -/
namespace Sys2Proof.Machine

/-- The depth a vote permits, for comparison (R188). -/
def Vote.depth : Vote → Nat
  | .stayAwake => 0
  | .dozeOk => 1
  | .deepOk => 2

/-- The shallower of two votes (R188). -/
def Vote.meet (a b : Vote) : Vote := if a.depth ≤ b.depth then a else b

/-- The target of an evaluation: the shallowest of the three votes (R188). -/
def target (s : State) : Vote := (s.scu.votes.spt0.meet s.scu.votes.spt1).meet s.scu.votes.apt

/-- The vote notice of R181: in DEEP it wakes when the target is no longer DEEP (R191). -/
def noteVote (s : State) : State := noteWake (decide (target s ≠ .deepOk)) s

/-- The notice of a context state change (R130): in DEEP it always wakes (R191). -/
def noteContext (s : State) : State := noteWake true s

/-! ### States and lines (R179, R180, R189, R192) -/

/-- AWAKE, with its lines; the DOZE power-up expiry is withdrawn (R179, R180). -/
def toAwake (s : State) : State :=
  { s with
    scu := { s.scu with sleep := .awake, dozeExpiry := none }
    pins := { s.pins with refEn := true, trxPwr := true } }

/-- The DOZE power-up expiry Tn - L, absent with no eligible start (R180). -/
def powerUpAt (s : State) : Option HT :=
  match earliestEligible s with
  | some tn => some (tn - BitVec.ofNat 32 s.scu.lead)
  | none => none

/-- DOZE: the power-up expiry is recomputed, and TRX_PWR is on while a grant exists or the expiry is not after
HT, when it is taken at once (R180). -/
def toDoze (s : State) : State :=
  { s with
    scu := { s.scu with
      sleep := .doze
      dozeExpiry := if expired (powerUpAt s) s.now then none else powerUpAt s }
    pins := { s.pins with refEn := true, trxPwr := s.tgu.grant.isSome || expired (powerUpAt s) s.now } }

/-- The wake plan of R186 at the current HT, or none when it fails. -/
def wakePlan (s : State) : Option WakePlan :=
  let tn := match earliestEligible s with
    | some t => t
    | none => addTicks s.now 4194304
  let d := (tn - BitVec.ofNat 32 s.scu.lead - s.now).toInt
  if d < 160 then none
  else
    let m := (d.toNat * s.scu.ppm + 999999) / 1000000
    if d.toNat < m + 160 then none
    else
      let d' := d.toNat - m
      some { h0 := s.now, tn := tn, lead := s.scu.lead, d := d', wp := addTicks s.now d',
             n := (d' * 16777216 - s.scu.acc) / s.scu.ratio }

/-- The DEEP entry (R189, R2): the reference stops, the source is SLOW, the divider count is discarded, the plan
is stored and the wake timer set. -/
def enterDeep (p : WakePlan) (s : State) : State :=
  { s with
    tlu := { s.tlu with source := .slow, divider := 0 }
    scu := { s.scu with sleep := .deep, plan := some p, wakeTimer := some p.n, refUp := false, dozeExpiry := none }
    pins := { s.pins with refEn := false, trxPwr := false } }

/-- WAKING is entered: REF_EN goes on, TRX_PWR stays off, the wake timer is withdrawn (R191, R192). -/
def startWaking (s : State) : State :=
  { s with
    scu := { s.scu with sleep := .waking, wakeTimer := none }
    pins := { s.pins with refEn := true, trxPwr := false } }

/-! ### Calibration (R182, R184) -/

/-- The calibration state is IDLE (R182). -/
def CalState.isIdle : CalState → Bool
  | .idle => true
  | _ => false

/-- A calibration becomes RUNNING with the window exponent in force (R182). -/
def startCalibration (s : State) : State :=
  { s with scu := { s.scu with cal := .running { n := s.scu.winExp, counting := false, slow := 0, fast := 0 } } }

/-- A PENDING calibration becomes RUNNING; another is left as it is (R182, R192). -/
def runPending (s : State) : State :=
  match s.scu.cal with
  | .pending => startCalibration s
  | _ => s

/-! ### Evaluation (R187, R188, R191) -/

/-- Every call context is IDLE (R188). -/
def allIdle (s : State) : Bool := s.cct.ctxs.all (fun c => decide (c.state = .idle))

/-- The DEEP conditions of R188 but for the plan. -/
def deepAllowed (s : State) : Bool :=
  s.tgu.grant.isNone && allIdle s && s.scu.valid && s.scu.cal.isIdle && s.scu.refUp

/-- The calibration start an evaluation whose target is DEEP applies first (R184, R188). -/
def calibrateFirst (s : State) : State :=
  if s.scu.cal.isIdle && (!s.scu.valid || s.scu.due) then startCalibration s else s

/-- An evaluation with target DEEP: DEEP when every condition holds, else DOZE (R188). -/
def tryDeep (s : State) : State :=
  if deepAllowed s then
    match wakePlan s with
    | some p => enterDeep p s
    | none => toDoze s
  else toDoze s

/-- An evaluation in AWAKE or DOZE (R188). -/
def chooseState (s : State) : State :=
  match target s with
  | .stayAwake => toAwake s
  | .dozeOk => toDoze s
  | .deepOk => tryDeep (calibrateFirst s)

/-- An evaluation by sleep state: chosen afresh in AWAKE and DOZE, WAKING started in DEEP when a notice of the
event asks for it, no action in WAKING (R187, R191). -/
def evaluate (wake : Bool) (s : State) : State :=
  match s.scu.sleep with
  | .awake => chooseState s
  | .doze => chooseState s
  | .deep => if wake then startWaking s else s
  | .waking => s

/-- The evaluation an event owes, made at its end (R187, log 4). -/
def runEval (s : State) : State :=
  if s.evalDue then evaluate s.evalWake { s with evalDue := false, evalWake := false } else s

end Sys2Proof.Machine
end

