-- ==== Sys2Proof/Machine/TextOps.lean ====
section
/-! DEFINITION. The Text Store's operations: the buffer pool, the inbox, reassembly entries, finishing and
promoting sends. -/
namespace Sys2Proof.Machine

/-! ### The pool (R147) -/

/-- The lowest-numbered free buffer (R147). -/
def freeBuffer (pool : List (Option (List Octet))) : Option Nat := pool.findIdx? (fun b => b.isNone)

/-- The number of free buffers (R147, R157). -/
def freeCountOf (pool : List (Option (List Octet))) : Nat := pool.countP (fun b => b.isNone)

/-- Free a list of buffers (R147). -/
def freeBuffers (bs : List Nat) (pool : List (Option (List Octet))) : List (Option (List Octet)) :=
  bs.foldl (fun p b => p.set b none) pool

/-- Take the lowest-numbered free buffers, one after another, each with a payload (R147, R165). -/
def takeBuffers : List (List Octet) → List (Option (List Octet)) → Option (List Nat × List (Option (List Octet)))
  | [], pool => some ([], pool)
  | d :: rest, pool =>
    match freeBuffer pool with
    | some b =>
      match takeBuffers rest (pool.set b (some d)) with
      | some (bs, pool') => some (b :: bs, pool')
      | none => none
    | none => none

/-- The payload a buffer holds. -/
def payloadOf (pool : List (Option (List Octet))) (b : Nat) : List Octet :=
  match pool[b]? with
  | some (some d) => d
  | _ => []

/-- The number of buffers held by send records (R147, R165). -/
def heldBySends (s : State) : Nat :=
  (s.txs.sends.map (fun r => match r with
    | some x => x.segs.length
    | none => 0)).sum

/-! ### Digits (R127, R150, R163) -/

/-- A symbol of a digit string: 0-9, *, # or + (R207). -/
def isSymbol (o : Octet) : Bool :=
  (decide (48 ≤ o.toNat) && decide (o.toNat ≤ 57)) || o.toNat == 42 || o.toNat == 35 || o.toNat == 43

/-- A digit string has at most `max` symbols, all of the set. -/
def digitsOk (max : Nat) (l : List Octet) : Bool := decide (l.length ≤ max) && l.all isSymbol

/-! ### Inbound messages (R148, R149, R154, R156) -/

/-- Change the text store. -/
def State.modTxs (s : State) (f : Txs → Txs) : State := { s with txs := f s.txs }

/-- The lowest inbox id not held by a message (R149). -/
def freeInboxId (inbox : List InboxMsg) : Nat :=
  match (List.range 16).find? (fun i => inbox.all (fun m => decide (m.id ≠ i))) with
  | some i => i
  | none => 16

/-- TEXT_ARRIVED (R156, R206). -/
def arrivedEvent (s : State) (m : InboxMsg) : Event :=
  mkEvent s .textArrived false (some m.msg.sub) (some m.id) none
    (oct8 m.msg.reference ++ oct8 m.msg.segs.length ++ oct8 m.msg.total ++ octFlag m.isPartial
      ++ octFlag m.msg.originator.isSome)

/-- TEXT_DISCARDED (R156, R206). -/
def discardedEvent (s : State) (index : Nat) (m : InMsg) (c : Cause) : Event :=
  mkEvent s .textDiscarded false (some m.sub) (some index) (some c)
    (oct8 m.reference ++ oct8 m.segs.length ++ oct8 m.total)

/-- A message enters the inbox at its end with the lowest free id, and TEXT_ARRIVED goes to the APT (R149,
R156). -/
def deliver (m : InMsg) (isPartial : Bool) (missing : List Nat) (done : HT) (s : State) : State :=
  let x : InboxMsg :=
    { id := freeInboxId s.txs.inbox, msg := m, isPartial := isPartial, missing := missing, done := done }
  post .apt (arrivedEvent s x) (s.modTxs (fun t => { t with inbox := t.inbox ++ [x] }))

/-- Replace a reassembly entry. -/
def setEntry (i : Nat) (e : Reasm) (s : State) : State :=
  s.modTxs (fun t => { t with entries := t.entries.set i e })

/-- The inbox holds 16 messages (R149). -/
def inboxFull (s : State) : Bool := decide (16 ≤ s.txs.inbox.length)

/-- An entry's message is complete or timed out: it enters the inbox and the entry is FREE, or, with the inbox
full, the entry waits as COMPLETE (R154, R155). -/
def finishEntry (i : Nat) (m : InMsg) (isPartial : Bool) (missing : List Nat) (s : State) : State :=
  if inboxFull s then setEntry i (.complete m isPartial missing s.now) s
  else deliver m isPartial missing s.now (setEntry i .free s)

/-- The sequences 1..total a message lacks, ascending (R155). -/
def missingOf (m : InMsg) : List Nat :=
  ((List.range m.total).map (fun k => k + 1)).filter (fun q => m.segs.all (fun g => decide (g.seq ≠ q)))

/-- Insert a segment in ascending sequence order (R148, R152). -/
def insertSegment (g : Segment) : List Segment → List Segment
  | [] => [g]
  | h :: rest => if g.seq < h.seq then g :: h :: rest else h :: insertSegment g rest

/-- Evict the entry at an index: its buffers are freed, it becomes FREE, and TEXT_DISCARDED with cause EVICTED
goes to the APT (R153). -/
def discardEntry (i : Nat) (m : InMsg) (c : Cause) (s : State) : State :=
  post .apt (discardedEvent s i m c)
    (setEntry i .free (s.modTxs (fun t => { t with pool := freeBuffers (m.segs.map (fun g => g.buffer)) t.pool })))

/-- The index of the ASSEMBLING entry with the oldest last arrival, the lowest index among equals (R153). -/
def oldestAssembling (entries : List Reasm) : Option (Nat × InMsg) :=
  (entries.zipIdx.foldl (fun best x => match x.1, best with
    | .assembling m la _, none => some (x.2, m, la)
    | .assembling m la _, some (j, m', la') => if before la la' then some (x.2, m, la) else some (j, m', la')
    | _, b => b) (none : Option (Nat × InMsg × HT))).map (fun b => (b.1, b.2.1))

/-- The index of the COMPLETE entry with the earliest completion HT, the lowest index among equals (R159). The entries
are compared by R3 in index order, each with the earliest so far: where completion HTs span 2^31 ticks or more and R3
names no earliest of them, that order is the model's choice (log 37). -/
def oldestComplete (entries : List Reasm) : Option (Nat × InMsg × Bool × List Nat × HT) :=
  entries.zipIdx.foldl (fun best x => match x.1, best with
    | .complete m p l d, none => some (x.2, m, p, l, d)
    | .complete m p l d, some b => if before d b.2.2.2.2 then some (x.2, m, p, l, d) else some b
    | _, b => b) none

/-- The lowest-indexed FREE entry (R148). -/
def freeEntry (entries : List Reasm) : Option Nat := entries.findIdx? (fun e => decide (e = .free))

/-- The ASSEMBLING entry with a key (R148). -/
def matchEntry (sub : Sub) (reference : Nat) (entries : List Reasm) : Option Nat :=
  entries.findIdx? (fun e => match e with
    | .assembling m _ _ => decide (m.sub = sub) && decide (m.reference = reference)
    | _ => false)

/-! ### Outbound sends (R169 to R171, R175, R176) -/

/-- TEXT_OUTBOUND (R176, R206). -/
def outboundEvent (s : State) (id : Nat) (r : SendRec) : Event :=
  mkEvent s .textOutbound true (some r.sub) (some id) none
    (oct16 (r.serial.getD 65535) ++ oct8 r.segs.length ++ octFlag r.persist)

/-- TEXT_SEND_STOPPED (R176, R206). -/
def stoppedEvent (s : State) (id : Nat) (r : SendRec) (c : Cause) : Event :=
  mkEvent s .textSendStopped false (some r.sub) (some id) (some c) (oct16 (r.serial.getD 65535))

/-- The number of a send's segments with an outcome that meets a condition. -/
def countSegs (r : SendRec) (c : SegOutcome → Bool) : Nat := r.segs.countP (fun g => c g.outcome)

/-- Outcome SENT. -/
def SegOutcome.isSent : SegOutcome → Bool
  | .sent => true
  | _ => false

/-- Outcome FAILED. -/
def SegOutcome.isFailed : SegOutcome → Bool
  | .failed _ => true
  | _ => false

/-- Outcome SKIPPED. -/
def SegOutcome.isSkipped : SegOutcome → Bool
  | .skipped => true
  | _ => false

/-- Outcome PENDING or TAKEN: still open (R169, R170). -/
def SegOutcome.isOpen : SegOutcome → Bool
  | .pending => true
  | .taken => true
  | _ => false

/-- TEXT_SENT (R176, R206). -/
def sentEvent (s : State) (id : Nat) (r : SendRec) (res : SendResult) (c : Option Cause) : Event :=
  mkEvent s .textSent false (some r.sub) (some id) c
    (oct8 res.code ++ oct16 (r.serial.getD 65535) ++ oct8 (countSegs r SegOutcome.isSent)
      ++ oct8 (countSegs r SegOutcome.isFailed) ++ oct8 (countSegs r SegOutcome.isSkipped))

/-- Promote a subscription's STAGED record: it becomes SENDING in the ACTIVE slot, the staged-send-waiting flag
is cleared and TEXT_OUTBOUND goes to the bound port (R35, R171). -/
def promote (i : Sub) (s : State) : State :=
  match s.txs.staged.get i with
  | some id =>
    match s.send id with
    | some r =>
      let s1 := ((s.setSend id (some { r with state := .sending })).modTxs (fun t =>
        { t with active := t.active.set i (some id), staged := t.staged.set i none })).modSub i (fun x =>
        { x with stagedWaiting := false })
      postBound i (outboundEvent s id r) s1
    | none => s
  | none => s

/-- A subscription's ACTIVE slot has emptied (R171): a STAGED record is promoted when the subscription is CAMPED,
and otherwise the staged-send-waiting flag is set. -/
def activeEmptied (i : Sub) (s : State) : State :=
  match s.txs.staged.get i with
  | some _ =>
    if (s.sub i).state = .camped then promote i s
    else s.modSub i (fun x => { x with stagedWaiting := true })
  | none => s

/-- The flag is read at an entry to CAMPED: a waiting STAGED send is promoted (R34, R35). -/
def promoteIfWaiting (i : Sub) (s : State) : State := if (s.sub i).stagedWaiting then promote i s else s

/-- Free a send record with its buffers (R163, R170, R172, R173). -/
def freeSend (id : Nat) (r : SendRec) (s : State) : State :=
  (s.setSend id none).modTxs (fun t => { t with pool := freeBuffers (r.segs.map (fun g => g.buffer)) t.pool })

/-- Empty a subscription's ACTIVE slot. -/
def clearActive (i : Sub) (s : State) : State := s.modTxs (fun t => { t with active := t.active.set i none })

/-- The cause TEXT_SEND_STOPPED carries at a finish: CANCELLED for a cancelled send, LINE_LOST for a fatal stop,
and none at another finish (R170, R176). -/
def stopCause (res : SendResult) (c : Option Cause) : Option Cause :=
  match res, c with
  | .cancelled, _ => some .cancelled
  | _, some .lineLost => some .lineLost
  | _, _ => none

/-- A result that frees the record: OK and CANCELLED (R170). -/
def SendResult.frees : SendResult → Bool
  | .ok => true
  | .cancelled => true
  | _ => false

/-- A send finishes (R170): the record takes its result and is freed or KEPT, its linked TEXT records are removed,
TEXT_SEND_STOPPED and TEXT_SENT are sent, and an emptied ACTIVE slot is acted on. `r` is the record with its
segments as they stand at the finish; `k` is what a release tells the subscription table (R85). -/
def finishSend (k : Sub → State → State) (id : Nat) (r : SendRec) (res : SendResult) (c : Option Cause)
    (s : State) : State :=
  let s1 := if res.frees then clearActive r.sub (freeSend id r s)
    else s.setSend id (some { r with state := .kept, result := some res, finishCause := c })
  let s2 := removeForSend k id s1
  let s3 := match stopCause res c with
    | some sc => postBound r.sub (stoppedEvent s id r sc) s2
    | none => s2
  let s4 := post .apt (sentEvent s id r res c) s3
  if res.frees then activeEmptied r.sub s4 else s4

/-- Open segments become SKIPPED (R169, R175). -/
def skipOpen (r : SendRec) : SendRec :=
  { r with segs := r.segs.map (fun g => if g.outcome.isOpen then { g with outcome := .skipped } else g) }

/-- The fatal stop of a subscription's SENDING record at DETACH or ABSENT entry (R175). -/
def fatalStop (k : Sub → State → State) (i : Sub) (s : State) : State :=
  match s.txs.active.get i with
  | some id =>
    match s.send id with
    | some r => if r.state = .sending then finishSend k id (skipOpen r) .failed (some .lineLost) s else s
    | none => s
  | none => s

end Sys2Proof.Machine
end

