-- ==== Sys2Proof/Machine/CallOps.lean ====
section
/-! DEFINITION. The Call Context Table's operations: the common effects of a context state change, audio
attachment, the in-call examination of the grant and the call events. -/
namespace Sys2Proof.Machine

/-- What a context change sets: the new state, the timer, the release cause and the connected HT (R130). -/
structure CtxChange where
  state : CtxState
  timer : Option HT
  cause : Option ReleaseCause
  connected : Option HT
deriving DecidableEq, Repr

/-- A context with a change made (R130, step 1). -/
def CallCtx.apply (c : CallCtx) (ch : CtxChange) : CallCtx :=
  { c with state := ch.state, timer := ch.timer, cause := ch.cause, connected := ch.connected }

/-- The audio attachment after a change of the context in `i` from `old` (R141, R130 step 2): a context entering
CONNECTED with none attached is attached, and an attached one leaving CONNECTED is detached. -/
def updateAudio (i : Nat) (old : CtxState) (c : CallCtx) (s : State) : State :=
  if c.state = .connected ∧ old ≠ .connected then
    if s.cct.ctxs.any (fun x => x.audio) then s
    else
      let s1 := s.setCtx i { c with audio := true }
      { s1 with cct := { s1.cct with audioSel := (match c.sub with
          | some q => (s.sub q).bound
          | none => none) } }
  else if old = .connected ∧ c.state ≠ .connected ∧ c.audio then
    let s1 := s.setCtx i { c with audio := false }
    { s1 with cct := { s1.cct with audioSel := none } }
  else s

/-- CALL_STATE (R130, R206): URGENT when an MT context enters ALERTING. -/
def callStateEvent (s : State) (i : Nat) (old : CtxState) (c : CallCtx) : Event :=
  let rc := match c.state with
    | .releasing => c.cause
    | .idle => c.cause
    | _ => none
  mkEvent s .callState (decide (c.state = .alerting) && decide (c.direction = some .mt)) c.sub (some i)
    (match rc with
      | some r => some r.cause
      | none => none)
    (oct8 c.state.code ++ oct8 old.code
      ++ oct8 (match c.direction with
        | some d => d.code
        | none => 0)
      ++ octFlag c.audio
      ++ oct8 (match rc with
        | some r => if r.cause = .network then r.stack else 0
        | none => 0))

/-- The subscription that became in call pre-empts a grant of the other subscription that is not a PAGE and is
below class 3 (R76). `k` is what a release tells the subscription table (R85). -/
def examineGrant (k : Sub → State → State) (sub : Sub) (s : State) : State :=
  match s.tgu.grant with
  | some g =>
    match s.occ (g.handle % 64) with
    | some o =>
      if g.sub ≠ sub ∧ o.kind ≠ .page ∧ g.cls < 3 then resolvePreempted g (k g.sub (dropGrant s))
      else s
    | none => s
  | none => s

/-- The effects of a context state change, in the order of R130. `ev` queues the events of the rule that causes
the change (step 5); `k` is what a release tells the subscription table (R85). -/
def changeCtx (k : Sub → State → State) (i : Nat) (ch : CtxChange) (ev : State → State) (s : State) : State :=
  match s.ctx i, (match s.ctx i with
      | some c => c.sub
      | none => none) with
  | some c, some sub =>
    let c1 := c.apply ch
    let s1 := updateAudio i c.state c1 (s.setCtx i c1)
    let s2 := if !inCall s sub && inCall s1 sub then examineGrant k sub s1 else s1
    let s3 := if ch.state = .idle then removeForCall k i s2 else s2
    let s4 := ev s3
    let c4 := match s1.ctx i with
      | some x => x
      | none => c1
    noteContext (post .apt (callStateEvent s4 i c.state c4) s4)
  | _, _ => s

/-- The context is IDLE with a release cause; its timer is withdrawn (R137, R139, R140, R143). `stack` is the stack's
cause value, 0 beside a cause of the part (log 33). -/
def toIdle (c : CallCtx) (cause : Cause) (stack : Nat) : CtxChange :=
  { state := .idle, timer := none, cause := some { cause := cause, stack := stack }, connected := c.connected }

/-- The context is RELEASING with a release cause and a release expiry (R134, R138, R140). The stack's cause value is 0
beside a cause of the part (log 33). -/
def toReleasing (s : State) (c : CallCtx) (cause : Cause) : CtxChange :=
  { state := .releasing, timer := some (addTicks s.now s.cct.releaseLimit),
    cause := some { cause := cause, stack := 0 }, connected := c.connected }

/-- The reference octets of the call request events: a presence octet and the reference, all ones when absent
(R206, log 22). -/
def referenceDetail (c : CallCtx) : List Octet :=
  match c.reference with
  | some r => oct8 1 ++ oct16 r
  | none => oct8 0 ++ oct16 65535

/-- A call event to the bound port of a context's subscription (R206). -/
def postCall (kind : EventKind) (urgent : Bool) (i : Nat) (c : CallCtx) (cause : Option Cause)
    (detail : List Octet) (s : State) : State :=
  match c.sub with
  | some sub => postBound sub (mkEvent s kind urgent (some sub) (some i) cause detail) s
  | none => s

/-- Forced release of the contexts of a subscription in a list of ids, with the cause the caller records (R143). -/
def forceRelease (k : Sub → State → State) (sub : Sub) (cause : Cause) : List Nat → State → State
  | [], s => s
  | i :: rest, s =>
    match s.ctx i with
    | some c =>
      if c.isOf sub then forceRelease k sub cause rest (changeCtx k i (toIdle c cause 0) (fun x => x) s)
      else forceRelease k sub cause rest s
    | none => forceRelease k sub cause rest s

end Sys2Proof.Machine
end

