-- ==== Sys2Proof/Machine/CellOps.lean ====
section
/-! DEFINITION. The Cell Watch Unit's operations: the filter, margins, evaluation, the trigger, the serving change,
bars and the trigger configuration. -/
namespace Sys2Proof.Machine

/-! ### The cell table (R88, R89, R93, R94) -/

/-- Update one entry of a subscription's cell table. -/
def modEntry (i : Sub) (k : Nat) (f : CellEntry → CellEntry) (s : State) : State :=
  s.modWatch i (fun w => { w with cells := w.cells.modify k f })

/-- The entry with an index. -/
def entryAt (s : State) (i : Sub) (k : Nat) : Option CellEntry := (s.watch i).cells[k]?

/-- LISTED or TRACKED: a neighbour entry (R89). -/
def EntryState.neighbour : EntryState → Bool
  | .listed => true
  | .tracked => true
  | _ => false

/-- A non-EMPTY entry holds a cell. -/
def CellEntry.holds (e : CellEntry) (c : Cell) : Bool := decide (e.state ≠ .empty) && decide (e.cell = some c)

/-- The index of the SERVING entry. -/
def servingIndex (cells : List CellEntry) : Option Nat := cells.findIdx? (fun e => decide (e.state = .serving))

/-- An EMPTY entry taken for a cell in a state (R88, R92, R93). -/
def CellEntry.fresh (st : EntryState) (c : Cell) (offset : Int) : CellEntry :=
  { CellEntry.emptyEntry with state := st, cell := some c, offset := offset }

/-- An entry of lower rank than another (R93): LISTED below TRACKED, then the lower level, then the higher
index. -/
def ranksBelow (x y : Nat × CellEntry) : Bool :=
  match x.2.state, y.2.state with
  | .listed, .tracked => true
  | .tracked, .listed => false
  | .tracked, .tracked =>
    match x.2.level, y.2.level with
    | some a, some b => decide (a < b) || (decide (a = b) && decide (y.1 < x.1))
    | _, _ => decide (y.1 < x.1)
  | _, _ => decide (y.1 < x.1)

/-- The victim of a CAMP with a full table: the neighbour of lowest rank (R93). -/
def victim (cells : List CellEntry) : Option Nat :=
  ((cells.zipIdx.filter (fun p => p.1.state.neighbour)).foldl (fun best p => match best with
    | none => some (p.2, p.1)
    | some b => if ranksBelow (p.2, p.1) b then some (p.2, p.1) else some b)
    (none : Option (Nat × CellEntry))).map (fun b => b.1)

/-- The entry the CWU chooses for a CAMP (R93): its index, and whether it is newly filled. -/
def campChoice (cells : List CellEntry) (c : Cell) : Option (Nat × Bool) :=
  match cells.findIdx? (fun e => e.holds c) with
  | some k => some (k, false)
  | none =>
    match cells.findIdx? (fun e => decide (e.state = .empty)) with
    | some k => some (k, true)
    | none =>
      match victim cells with
      | some k => some (k, true)
      | none => none

/-- The SERVING entry demoted: TRACKED with a filtered level, LISTED without (R94). -/
def CellEntry.demoted (e : CellEntry) : CellEntry :=
  if e.state = .serving then { e with state := if e.level.isSome then .tracked else .listed } else e

/-- The serving change (R94): the present SERVING entry is demoted, the chosen one becomes SERVING without a bar,
the serving entry index follows and the evaluation record is cleared. -/
def servingChange (i : Sub) (k : Nat) (s : State) : State :=
  (s.modWatch i (fun w =>
    { w with
      cells := (w.cells.map CellEntry.demoted).modify k (fun e => { e with state := .serving, bar := none })
      evalRec := none })).modSub i (fun r => { r with serving := some k })

/-- The trigger returns to IDLE with no event (R112). -/
def idleTrigger (i : Sub) (s : State) : State := s.modWatch i (fun w => { w with trigger := .idle })

/-- The evaluation record is cleared (R90). -/
def clearEval (i : Sub) (s : State) : State := s.modWatch i (fun w => { w with evalRec := none })

/-- The CWU's part of a CAMP (R93): the entry for the cell becomes SERVING, the trigger is IDLE and the evaluation
record is cleared. -/
def campServing (i : Sub) (c : Cell) (s : State) : State :=
  match campChoice (s.watch i).cells c with
  | some (k, isNew) =>
    let s1 := if isNew then modEntry i k (fun _ => CellEntry.fresh .listed c 0) s else s
    let s2 := match (s.watch i).cells[k]? with
      | some e => if e.state = .serving ∧ isNew = false then s1.modSub i (fun r => { r with serving := some k })
        else servingChange i k s1
      | none => s1
    clearEval i (idleTrigger i s2)
  | none => clearEval i (idleTrigger i s)

/-! ### The filter (R96, R98) -/

/-- A sample level saturated to -600..-80 (R96). -/
def saturate (l : Int) : Int := if l < -600 then -600 else if -80 < l then -80 else l

/-- The filtered level after a sample (R98): the first sample and k = 0 take S x 64; otherwise a step of D / 2^k
rounded half up. -/
def filterLevel (k : Nat) (level : Option Int) (smp : Int) : Int :=
  match level with
  | none => smp * 64
  | some f => if k = 0 then smp * 64 else f + (smp * 64 - f + 2 ^ (k - 1)) / 2 ^ k

/-- An entry after a sample (R96): the level, the state, the count and a carried timing. -/
def CellEntry.sampled (e : CellEntry) (k : Nat) (smp : Int) (timing : Option HT) : CellEntry :=
  { e with
    state := if e.state = .listed then .tracked else e.state
    level := some (filterLevel k e.level smp)
    count := if e.count < 65535 then e.count + 1 else 65535
    timing := match timing with
      | some t => some t
      | none => e.timing }

/-! ### Margins and evaluation (R100, R101) -/

/-- The filtered level of the SERVING entry, F_s (R100). -/
def servingLevel (cells : List CellEntry) : Option Int :=
  match servingIndex cells with
  | some k => match cells[k]? with
    | some e => e.level
    | none => none
  | none => none

/-- The margin of an entry against a serving level (R100); only a TRACKED entry without a bar has one. -/
def marginOf (h : Nat) (fs : Option Int) (e : CellEntry) : Option Int :=
  match fs, e.level with
  | some f, some l =>
    if e.state = .tracked ∧ e.bar = none then some (l + 256 * e.offset - f - 128 * (h : Int)) else none
  | _, _ => none

/-- The best candidate of a table: the highest positive margin, the lowest index among equals (R101). -/
def bestCandidate (h : Nat) (cells : List CellEntry) : Option (Nat × CellEntry × Int) :=
  cells.zipIdx.foldl (fun best p => match marginOf h (servingLevel cells) p.1 with
    | some m =>
      if 0 < m then match best with
        | none => some (p.2, p.1, m)
        | some b => if b.2.2 < m then some (p.2, p.1, m) else some b
      else best
    | none => best) none

/-- The evaluation record of a table at an HT (R90, R101). -/
def evaluateTable (ht : HT) (h : Nat) (cells : List CellEntry) : EvalRecord :=
  { ht := ht
    best := match bestCandidate h cells, servingLevel cells with
      | some (k, e, m), some fs =>
        some { index := k, code := (match e.cell with
                | some c => c.code
                | none => 0),
               channel := (match e.cell with
                | some c => c.channel
                | none => 0), margin := m, fs := fs, fc := (match e.level with
                | some l => l
                | none => 0) }
      | _, _ => none }

/-! ### The trigger (R112 to R114) -/

/-- HO_CANDIDATE with the figures of the evaluation record, stamped with its HT; the cause field carries the
cell code (R114, R202, R206). -/
def candidateEvent (i : Sub) (ht : HT) (b : Best) : Event :=
  { kind := .hoCandidate, urgent := true, sub := some i, subject := some b.index, cause := b.code, stamp := ht,
    detail := oct16 b.channel ++ oct16 b.margin.toNat ++ octLevel b.fs ++ octLevel b.fc }

/-- HO_WITHDRAWN naming an entry (R114). -/
def withdrawnEvent (s : State) (i : Sub) (c : Nat) : Event :=
  mkEvent s .hoWithdrawn false (some i) (some c) none []

/-- Set a subscription's trigger. -/
def setTrigger (i : Sub) (t : Trigger) (s : State) : State := s.modWatch i (fun w => { w with trigger := t })

/-- Report the candidate of the evaluation record and enter or stay in REPORTED, the repeat expiry set from the
current HT (R112, R113). -/
def reportCandidate (i : Sub) (c : Nat) (s : State) : State :=
  let s1 := setTrigger i (.reported c (addTicks s.now (s.watch i).config.repeatTicks)) s
  match (s.watch i).evalRec with
  | some r => match r.best with
    | some b => postBound i (candidateEvent i r.ht b) s1
    | none => s1
  | none => s1

/-- The trigger acts on a finding (R112). -/
def triggerFinding (i : Sub) (b : Option Nat) (s : State) : State :=
  match (s.watch i).trigger, b with
  | .idle, none => s
  | .idle, some k =>
    if (s.watch i).config.ttt = 0 then reportCandidate i k s
    else setTrigger i (.running k s.now (addTicks s.now (s.watch i).config.ttt)) s
  | .running _ _ _, none => setTrigger i .idle s
  | .running c t0 e, some k =>
    if k = c then s
    else match (s.watch i).config.mode with
      | .hold => setTrigger i (.running k t0 e) s
      | .restart => setTrigger i (.running k s.now (addTicks s.now (s.watch i).config.ttt)) s
  | .reported c _, none => postBound i (withdrawnEvent s i c) (setTrigger i .idle s)
  | .reported _ r, some k => setTrigger i (.reported k r) s

/-- An evaluation: the record is replaced and the finding is handed to the trigger (R101, R102). -/
def evaluateCells (i : Sub) (s : State) : State :=
  let r := evaluateTable s.now (s.watch i).config.h (s.watch i).cells
  triggerFinding i (r.best.map (fun b => b.index)) (s.modWatch i (fun w => { w with evalRec := some r }))

/-- TTT expiry in RUNNING: the candidate is reported (R113). -/
def takeTtt (i : Sub) (s : State) : State :=
  match (s.watch i).trigger with
  | .running c _ _ => reportCandidate i c s
  | _ => s

/-- Repeat expiry in REPORTED: reported again with the record's candidate, or withdrawn (R113). -/
def takeRepeat (i : Sub) (s : State) : State :=
  match (s.watch i).trigger with
  | .reported c _ =>
    match (s.watch i).evalRec with
    | some r => match r.best with
      | some b => reportCandidate i b.index s
      | none => postBound i (withdrawnEvent s i c) (setTrigger i .idle s)
    | none => postBound i (withdrawnEvent s i c) (setTrigger i .idle s)
  | _ => s

/-! ### Bars (R103) -/

/-- Bar an entry for the bar time in force (R103). -/
def setBar (i : Sub) (k : Nat) (s : State) : State :=
  modEntry i k (fun e => { e with bar := some (addTicks s.now (s.watch i).config.barTicks) }) s

/-! ### What DETACHED and ABSENT show (R125) -/

/-- The subscription is DETACHED or ABSENT, where CELL_TABLE_READ and CELL_CONFIG show the trigger IDLE and the switch
record absent (R125). -/
def SubState.resting : SubState → Bool
  | .detached => true
  | .absent => true
  | _ => false

/-- A switch record in a response: its target, code, channel and handle under one presence octet (R125, log 32). -/
def switchItem (r : Option SwitchRec) : Out :=
  optional 7 (r.map (fun x => oct8 x.target ++ oct16 x.code ++ oct16 x.channel ++ oct16 x.handle))

/-- What CELL_CONFIG adds to the items of R109 in DETACHED and ABSENT: the switch record (R125, log 32). -/
def shownSwitch (s : State) (i : Sub) : Out :=
  if (s.sub i).state.resting then switchItem (s.watch i).switchRec else []

/-- What CELL_TABLE_READ adds to the items of R105 in DETACHED and ABSENT: the trigger state and the switch record
(R125, log 32). -/
def shownHandover (s : State) (i : Sub) : Out :=
  if (s.sub i).state.resting then lit (oct8 (s.watch i).trigger.code) ++ switchItem (s.watch i).switchRec else []

/-! ### Trigger configuration (R108 to R111) -/

/-- A staged or given set of settings put over the settings in force. -/
def TrigConfig.over (c : TrigConfig) (g : StagedConfig) : TrigConfig :=
  { k := g.k.getD c.k, h := g.h.getD c.h, ttt := g.ttt.getD c.ttt, mode := g.mode.getD c.mode,
    repeatTicks := g.repeatTicks.getD c.repeatTicks, barTicks := g.barTicks.getD c.barTicks }

/-- Given settings put over the staged ones (R111). -/
def StagedConfig.over (c g : StagedConfig) : StagedConfig :=
  { k := g.k.or c.k, h := g.h.or c.h, ttt := g.ttt.or c.ttt, mode := g.mode.or c.mode,
    repeatTicks := g.repeatTicks.or c.repeatTicks, barTicks := g.barTicks.or c.barTicks }

/-- Settings take effect (R110): a TTT moves the expiry of a running trigger to t0 + TTT, which is taken at once
when it is not after HT. -/
def applyConfig (i : Sub) (g : StagedConfig) (s : State) : State :=
  let s1 := s.modWatch i (fun w => { w with config := w.config.over g })
  match (s.watch i).trigger, g.ttt with
  | .running c t0 _, some t =>
    let s2 := setTrigger i (.running c t0 (addTicks t0 t)) s1
    if passed (addTicks t0 t) s.now then takeTtt i s2 else s2
  | _, _ => s1

/-- The staged configuration comes into force at a close and becomes absent (R111). -/
def applyStaged (i : Sub) (s : State) : State :=
  (applyConfig i (s.watch i).staged s).modWatch i (fun w => { w with staged := StagedConfig.absent })

end Sys2Proof.Machine
end

