-- ==== Sys2Proof/Machine/SubOps.lean ====
section
/-! DEFINITION. The Subscription Table's operations: state changes and SUB_STATE, the miss-limit comparison and
ABSENT entry, the releases that lead to it, the close of a switch and the teardown. -/
namespace Sys2Proof.Machine

/-- A change of subscription state: the state being left is copied into the prior state (R20). -/
def setSubState (i : Sub) (st : SubState) (s : State) : State :=
  s.modSub i (fun r => { r with prior := r.state, state := st })

/-- SUB_STATE to the APT (R20, R206): URGENT when the new state is ABSENT; the serving cell code where the new
state is CAMPED or SWITCHING, all ones when absent. -/
def sendSubState (i : Sub) (c : Cause) (s : State) : State :=
  let r := s.sub i
  let code := match r.state with
    | .camped => servingCell s i
    | .switching => servingCell s i
    | _ => none
  post .apt (mkEvent s .subState (decide (r.state = .absent)) (some i) none (some c)
    (oct8 r.state.code ++ oct8 r.prior.code ++ oct8 r.miss ++ oct16 (match code with
      | some x => x.code
      | none => 65535))) s

/-- Resolve as passed over the AWAITING_DONE records of a list of slots (R30, R50). -/
def passOver : List Nat → State → State
  | [], s => s
  | i :: rest, s => passOver rest (resolve .passedOver i s)

/-- An AWAITING_DONE record of a subscription. -/
def awaitingOf (i : Sub) (o : Occasion) : Bool := decide (o.sub = i) && decide (o.state = .awaitingDone)

/-- Release a subscription's grant with no event and resolve its record as passed over (R30, step 2). -/
def passOverGrant (i : Sub) (s : State) : State :=
  match s.tgu.grant with
  | some g => if g.sub = i then resolve .passedOver (g.handle % 64) (dropGrant s) else s
  | none => s

/-- ABSENT entry, in the order of R30. Releases inside it tell the subscription table nothing: the state is
ABSENT already, so the comparison of R29 has no effect. -/
def absentEntry (i : Sub) (s : State) : State :=
  let quiet : Sub → State → State := fun _ x => x
  let s1 := setSubState i .absent s
  let s2 := passOverGrant i s1
  let s3 := passOver (slotsWhere (awaitingOf i) s2) s2
  let s4 := clearEval i (idleTrigger i s3)
  let s5 := forceRelease quiet i .stackAbsent [0, 1, 2, 3] s4
  let s6 := fatalStop quiet i s5
  sendSubState i .missLimit s6

/-- The subscription holds a GRANTED occasion of effective class 3 (R29). -/
def holdsClass3 (s : State) (i : Sub) : Bool :=
  match s.tgu.grant with
  | some g => decide (g.sub = i) && decide (g.cls = 3)
  | none => false

/-- ABSENT entry is due: the counter is at or above the limit, the subscription is CAMPED, and it holds no
class-3 grant (R29). -/
def absentDue (s : State) (i : Sub) : Bool :=
  decide (s.sbt.missLimit ≤ (s.sub i).miss) && decide ((s.sub i).state = .camped) && !holdsClass3 s i

/-- The comparison of the miss counter with the limit; also the grant-end notice of R85 (R29). -/
def compareMiss (i : Sub) (s : State) : State := if absentDue s i then absentEntry i s else s

/-- A miss notice (R28, R29). -/
def missNotice (i : Sub) (s : State) : State :=
  compareMiss i (s.modSub i (fun r => { r with miss := if r.miss < 15 then r.miss + 1 else 15 }))

/-- A confirm notice (R28). -/
def confirmNotice (i : Sub) (s : State) : State := s.modSub i (fun r => { r with miss := 0 })

/-- Release the current grant and give the grant-end notice at once (R75, R85, log 14). -/
def releaseGrant (s : State) : State :=
  match s.tgu.grant with
  | some g => compareMiss g.sub (dropGrant s)
  | none => s

/-! ### Closing a switch (R119 to R123) -/

/-- Steps 2 to 7 of a switch close (R120). `late` is the late-close mark the close leaves. -/
def completeClose (i : Sub) (late : Bool) (s : State) : State :=
  let s1 := s.modWatch i (fun w => { w with switchRec := none, lateClose := late })
  let s2 := idleTrigger i (applyStaged i s1)
  let s3 := sendSubState i .switchClosed (setSubState i .camped s2)
  if absentDue s3 i then absentEntry i s3 else promoteIfWaiting i s3

/-- SWITCH_CLOSED: the target index, the cause, the SWITCH handle and the bar expiry (R122, R206). -/
def switchClosedEvent (s : State) (i : Sub) (sw : SwitchRec) (c : Cause) : Event :=
  mkEvent s .switchClosed true (some i) (some sw.target) (some c)
    (oct16 sw.handle ++ octHt (addTicks s.now (s.watch i).config.barTicks))

/-- The part closes a switch on its own, at a timeout or a loss: the target is barred, SWITCH_CLOSED is sent, and
the close is completed with the late-close mark set (R122). -/
def closeByPart (i : Sub) (c : Cause) (s : State) : State :=
  match (s.watch i).switchRec with
  | some sw => completeClose i true (postBound i (switchClosedEvent s i sw c) (setBar i sw.target s))
  | none => s

/-! ### Teardown (R27, R106, R123) -/

/-- A record of a subscription. -/
def ofSub (i : Sub) (o : Occasion) : Bool := decide (o.sub = i)

/-- Remove the records of a list of slots with no event (R27, step 1). A free slot is no record: a late mark it
keeps stays (log 27). -/
def removeAll : List Nat → State → State
  | [], s => s
  | i :: rest, s => removeAll rest (removeRecord (fun _ x => x) i s)

/-- The CWU's share of a teardown (R106, R123): the table is empty, the switch record is absent, the late-close mark
is clear, the staged configuration is applied and the trigger is IDLE. -/
def clearWatch (i : Sub) (s : State) : State :=
  let s1 := (s.modWatch i (fun w =>
    { w with
      cells := List.replicate 16 CellEntry.emptyEntry
      evalRec := none
      trigger := .idle
      switchRec := none
      lateClose := false })).modSub i (fun r => { r with serving := none })
  applyStaged i s1

/-- The current grant is the subscription's own. -/
def ownsGrant (s : State) (i : Sub) : Bool :=
  match s.tgu.grant with
  | some g => decide (g.sub = i)
  | none => false

/-- Step 1 of a teardown (R27): every record of the subscription leaves with no event. A grant released by it gives
its grant-end notice after the last of them, before the counter is cleared by step 6 (R29, R75, R85, log 13). -/
def removeRecords (i : Sub) (s : State) : State :=
  let s1 := removeAll (slotsWhere (ofSub i) s) s
  if ownsGrant s i && s1.tgu.grant.isNone then compareMiss i s1 else s1

/-- The teardown brings a subscription to DETACHED, in the order of R27. -/
def teardown (i : Sub) (s : State) : State :=
  let quiet : Sub → State → State := fun _ x => x
  let s1 := removeRecords i s
  let s2 := clearWatch i s1
  let s3 := s2.setAnchor i none
  let s4 := forceRelease quiet i .detached [0, 1, 2, 3] s3
  let s5 := fatalStop quiet i s4
  let s6 := setSubState i .detached (s5.modSub i (fun r => { r with miss := 0 }))
  sendSubState i .detach s6

end Sys2Proof.Machine
end

