-- ==== Sys2Proof/Machine/GrantOps.lean ====
section
/-! DEFINITION. The Transceiver Grant Unit's operations: the five steps of an occasion start, the end, the grace
expiry and the opening of a tune-away window. -/
namespace Sys2Proof.Machine

/-! ### Window (R81 to R83) -/

/-- A window opens: staged W and A take effect, the used count is 0, the window number follows (R82). -/
def openWindow (s : State) : State :=
  let w := s.tgu.stagedW.getD s.tgu.w
  { s with tgu := { s.tgu with
      w := w
      a := s.tgu.stagedA.getD s.tgu.a
      stagedW := none
      stagedA := none
      used := 0
      window := slotNumber s.now / w } }

/-! ### End (R74) -/

/-- The grant's end is due: it is not after HT (R4, R74). -/
def endDue (s : State) : Bool :=
  match s.tgu.grant with
  | some g => passed g.endHt s.now
  | none => false

/-- The record becomes AWAITING_DONE with its grace, and the grant is ended (R74, steps 1 and 2). -/
def endGrant (s : State) : State :=
  match s.tgu.grant with
  | some g => dropGrant (s.modSlot (g.handle % 64) (fun sl =>
      { sl with occ := sl.occ.map (fun o =>
          { o with state := .awaitingDone, grace := some (addTicks g.endHt 128) }) }))
  | none => s

/-- The occasion end with its grant-end notice (R74, R85). -/
def takeEnd (s : State) : State :=
  match s.tgu.grant with
  | some g => compareMiss g.sub (endGrant s)
  | none => s

/-! ### Grace (R79) -/

/-- A slot's grace expiry is due. -/
def graceDue (i : Nat) (s : State) : Bool :=
  match s.occ i with
  | some o => decide (o.state = .awaitingDone) && expired o.grace s.now
  | none => false

/-- The grace expiry of the record in a slot (R79): MISSED, OCC_ENDED unless SWITCH, a miss notice for PAGE, a
switch timeout for SWITCH, and the sleep unit's notice. -/
def takeGrace (i : Nat) (s : State) : State :=
  match s.occ i with
  | some o =>
    let s1 := resolve .missed i s
    noteEval (match o.kind with
      | .switch => closeByPart o.sub .switchTimeout s1
      | .page => missNotice o.sub (postBound o.sub (endedEvent s i o .missed (o.endHt.getD o.start)) s1)
      | _ => postBound o.sub (endedEvent s i o .missed (o.endHt.getD o.start)) s1)
  | none => s

/-! ### Start (R65 to R73) -/

/-- A WAITING record whose start is reached (R49). -/
def starts (now : HT) (o : Occasion) : Bool := decide (o.state = .waiting) && passed o.start now

/-- A starter that is lost: resolved LOST with OCC_LOST to its bound port (R73). -/
def loseStarter (c : Cause) (i : Nat) (s : State) : State :=
  match s.occ i with
  | some o => postBound o.sub (lostEvent s i o c o.start) (resolve .lost i s)
  | none => s

/-- A starter still in contention after the policy step: its slot, its effective class, and whether it is a
tune-away PAGE (R67, R71). -/
structure Starter where
  slot : Nat
  sub : Sub
  cls : Nat
  tuneAway : Bool
deriving DecidableEq, Repr

/-- What a start has decided so far: the state, the SWITCH starters lost with their causes (R73), and the starters
that remain. -/
structure StartRun where
  state : State
  lostSwitches : List (Sub × Cause)
  remaining : List Starter

/-- A starter is lost in a start; a SWITCH starter is remembered for the close of its switch (R73, R122). -/
def StartRun.lose (r : StartRun) (c : Cause) (i : Nat) : StartRun :=
  match r.state.occ i with
  | some o => { r with
      state := loseStarter c i r.state
      lostSwitches := if o.kind = .switch then r.lostSwitches ++ [(o.sub, c)] else r.lostSwitches }
  | none => r

/-- Step 1, holding (R66): starters of a SWITCHING subscription other than SWITCH are lost, those of an ABSENT one
are passed over, the slots that go on are returned. -/
def holdStep : List Nat → StartRun → StartRun × List Nat
  | [], r => (r, [])
  | i :: rest, r =>
    match r.state.occ i with
    | some o =>
      match (r.state.sub o.sub).state with
      | .absent => holdStep rest { r with state := resolve .passedOver i r.state }
      | .switching =>
        if o.kind = .switch then
          let q := holdStep rest r
          (q.1, i :: q.2)
        else holdStep rest (r.lose .switching i)
      | _ =>
        let q := holdStep rest r
        (q.1, i :: q.2)
    | none => holdStep rest r

/-- Step 2, the two-line policy (R67). -/
def policyStep : List Nat → StartRun → StartRun
  | [], r => r
  | i :: rest, r =>
    match r.state.occ i with
    | some o =>
      if inCall r.state o.sub.other then
        if o.kind = .page then
          if o.length ≤ r.state.tgu.a - r.state.tgu.used then
            policyStep rest { r with remaining := r.remaining ++ [⟨i, o.sub, 3, true⟩] }
          else policyStep rest (r.lose .allowanceExhausted i)
        else policyStep rest (r.lose .callOnOtherLine i)
      else policyStep rest { r with remaining := r.remaining ++ [⟨i, o.sub, o.kind.base, false⟩] }
    | none => policyStep rest r

/-- Lose every starter of a list (R68, R69). -/
def loseAll (c : Cause) : List Nat → StartRun → StartRun
  | [], r => r
  | i :: rest, r => loseAll c rest (r.lose c i)

/-- WAKE_LATE: the handle of the first starter lost NOT_READY, the number lost, and the HT of the start as its
stamp (R68, R206). -/
def wakeLateEvent (s : State) (first : Nat) (n : Nat) : Event :=
  { mkEvent s .wakeLate true none (some (handleAt s first)) none (oct8 n) with
    stamp := match s.occ first with
      | some o => o.start
      | none => s.now }

/-- Step 3, readiness (R68): in DEEP and WAKING every remaining starter is lost NOT_READY, with one WAKE_LATE. -/
def readyStep (r : StartRun) : StartRun :=
  if r.state.scu.sleep.notReady then
    match r.remaining with
    | [] => r
    | x :: rest =>
      let q := loseAll .notReady ((x :: rest).map (fun y => y.slot)) r
      { q with state := post .apt (wakeLateEvent r.state x.slot (rest.length + 1)) q.state, remaining := [] }
  else r

/-- The subscription the tie preference names for a class (R69). -/
def tieOf (t : TiePrefs) (cls : Nat) : Sub :=
  match cls with
  | 0 => t.c0
  | 1 => t.c1
  | 2 => t.c2
  | _ => t.c3

/-- The arbiter prefers one starter to another: higher effective class, then the tie preference of that class for
different subscriptions, then the lower slot (R69). -/
def prefers (t : TiePrefs) (x y : Starter) : Bool :=
  if x.cls = y.cls then
    if x.sub = y.sub then decide (x.slot < y.slot) else decide (x.sub = tieOf t x.cls)
  else decide (y.cls < x.cls)

/-- Step 4: the winner of the remaining starters (R69). -/
def winner (t : TiePrefs) : List Starter → Option Starter
  | [] => none
  | x :: rest =>
    match winner t rest with
    | some y => if prefers t x y then some x else some y
    | none => some x

/-- OCC_GRANTED: the end, the kind, the effective class and the allowance remaining after the charge, 255 when not
a tune-away PAGE; the stamp is the start (R72, R206). -/
def grantedEvent (s : State) (x : Starter) (o : Occasion) (endHt : HT) (allowance : Nat) : Event :=
  { mkEvent s .occGranted true (some o.sub) (some (handleAt s x.slot)) none
      (octHt endHt ++ oct8 o.kind.code ++ oct8 x.cls ++ oct8 allowance) with stamp := o.start }

/-- A starter is granted (R72, R142): the record, the grant record, TRX_SEL, the charge of a tune-away PAGE, the
class-3 hold, OCC_GRANTED and the sleep unit's notice. -/
def grantStarter (x : Starter) (s : State) : State :=
  match s.occ x.slot with
  | some o =>
    let e := addTicks o.start (o.length * 16)
    let used := if x.tuneAway then s.tgu.used + o.length else s.tgu.used
    let s1 := s.modSlot x.slot (fun sl => { sl with occ := some { o with state := .granted, endHt := some e } })
    let s2 :=
      { s1 with
        tgu := { s1.tgu with
          grant := some { handle := handleAt s x.slot, sub := o.sub, cls := x.cls, endHt := e }
          used := used }
        pins := { s1.pins with trxSel := (s.sub o.sub).bound }
        cct := { s1.cct with hold := if x.cls = 3 then s1.cct.hold.set o.sub true else s1.cct.hold } }
    noteEval (postBound o.sub (grantedEvent s x o e (if x.tuneAway then s.tgu.a - used else 255)) s2)
  | none => s

/-- The grantee gives way to a higher class: it is released and resolved PREEMPTED, and the grant-end notice comes
after the start (R70, R85). -/
def preemptGrant (g : Grant) (s : State) : State := resolvePreempted g (dropGrant s)

/-- Step 5: the winner against the current grant (R70). The second part lists the subscriptions owed a grant-end
notice. -/
def compareStep (x : Starter) (r : StartRun) : StartRun × List Sub :=
  match r.state.tgu.grant with
  | none => ({ r with state := grantStarter x r.state }, [])
  | some g =>
    if g.cls < x.cls ∧ g.cls < 3 then
      ({ r with state := grantStarter x (preemptGrant g r.state) }, [g.sub])
    else (r.lose .busy x.slot, [])

/-- Steps 4 and 5: arbitration, then comparison with the grant (R69, R70). -/
def contendStep (r : StartRun) : StartRun × List Sub :=
  match winner r.state.tgu.tie r.remaining with
  | some x =>
    compareStep x (loseAll .busy ((r.remaining.filter (fun y => decide (y.slot ≠ x.slot))).map (fun y => y.slot)) r)
  | none => (r, [])

/-- The grant-end notices of a start, after all its events (R65, R85). -/
def giveNotices : List Sub → State → State
  | [], s => s
  | i :: rest, s => giveNotices rest (compareMiss i s)

/-- The closes of the switches whose SWITCH starters were lost, after all the events of the start (R73, R122). -/
def closeLost : List (Sub × Cause) → State → State
  | [], s => s
  | x :: rest, s => closeLost rest (closeByPart x.1 x.2 s)

/-- The late marks of the starters are cleared (R49). -/
def clearLates : List Nat → State → State
  | [], s => s
  | i :: rest, s => clearLates rest (clearLate i s)

/-- The slots of the starters of this instant, in calendar order (R49). -/
def starterSlots (s : State) : List Nat := slotsWhere (starts s.now) s

/-- An occasion start is due: some WAITING record's start is reached. -/
def startDue (s : State) : Bool := (records s).any (fun x => starts s.now x.2)

/-- The occasion start (R65): an end and a window opening due at this HT are taken first, then the five steps, the
grant-end notices and the closes of lost switches (log 15). -/
def takeStart (s : State) : State :=
  let slots := starterSlots s
  let ended := match s.tgu.grant with
    | some g => if endDue s then [g.sub] else []
    | none => []
  let s1 := if endDue s then endGrant s else s
  let s2 := if windowDue s1 then openWindow s1 else s1
  let s3 := noteEval (clearLates slots s2)
  let h := holdStep slots { state := s3, lostSwitches := [], remaining := [] }
  let p := readyStep (policyStep h.2 h.1)
  let c := contendStep p
  closeLost c.1.lostSwitches (giveNotices (ended ++ c.2) c.1.state)

end Sys2Proof.Machine
end

