-- ==== Sys2Proof/Machine/ClockOps.lean ====
section
/-! DEFINITION. The expiries the part takes on its own (R4), each as a condition and an effect, and the clock events
that advance HT. -/
namespace Sys2Proof.Machine

/-- Take an event when it is due, and make the sleep evaluation it owes; otherwise nothing happens (R4, R187). -/
def fire (due : State → Bool) (take : State → State) (s : State) : State :=
  if due s then runEval (take s) else s

/-- An event of the part or of a pin as a command: with the reset pin asserted (log 10) or the event not due (log 1)
the state is unchanged. -/
def occur (due : State → Bool) (take : State → State) (s : State) : Host.Outcome State Fault Refusal :=
  if !s.inReset && due s then commit (runEval (take s)) else .next s

/-! ### Expiries of the blocks -/

/-- TTT expiry due (R113). -/
def tttDue (i : Sub) (s : State) : Bool :=
  match (s.watch i).trigger with
  | .running _ _ e => passed e s.now
  | _ => false

/-- Repeat expiry due (R113). -/
def repeatDue (i : Sub) (s : State) : Bool :=
  match (s.watch i).trigger with
  | .reported _ e => passed e s.now
  | _ => false

/-- A bar expiry due (R104). -/
def barDue (i : Sub) (k : Nat) (s : State) : Bool :=
  match entryAt s i k with
  | some e => expired e.bar s.now
  | none => false

/-- A bar is dropped with no event and no evaluation (R104). -/
def takeBar (i : Sub) (k : Nat) (s : State) : State := modEntry i k (fun e => { e with bar := none }) s

/-- A context's timer is due in a state (R139, R140). -/
def timerDue (st : CtxState) (i : Nat) (s : State) : Bool :=
  match s.ctx i with
  | some c => decide (c.state = st) && expired c.timer s.now
  | none => false

/-- The setup expiry (R139): IDLE with cause NO_STACK_ANSWER, and CALL_RELEASE_REQ to the bound port. -/
def takeSetup (i : Nat) (s : State) : State :=
  match s.ctx i with
  | some c => changeCtx compareMiss i (toIdle c .noStackAnswer 0)
      (postCall .callReleaseReq true i c (some .noStackAnswer) (referenceDetail c)) s
  | none => s

/-- The release expiry (R140): IDLE with cause RELEASE_TIMEOUT. -/
def takeRelease (i : Nat) (s : State) : State :=
  match s.ctx i with
  | some c => changeCtx compareMiss i (toIdle c .releaseTimeout 0) (fun x => x) s
  | none => s

/-- A reassembly timeout is due (R155). -/
def reassemblyDue (i : Nat) (s : State) : Bool :=
  match s.txs.entries[i]? with
  | some (.assembling _ _ e) => passed e s.now
  | _ => false

/-- The reassembly timeout (R155): delivered partial or waiting, or discarded with TEXT_DISCARDED. -/
def takeReassembly (i : Nat) (s : State) : State :=
  match s.txs.entries[i]? with
  | some (.assembling m _ _) =>
    if s.txs.partialOn then finishEntry i m true (missingOf m) s else discardEntry i m .timeout s
  | _ => s

/-- The recalibration expiry is due (R184). -/
def recalDue (s : State) : Bool := expired s.scu.recalExpiry s.now

/-- The recalibration expiry sets the due flag and is absent (R184). -/
def takeRecal (s : State) : State := { s with scu := { s.scu with recalExpiry := none, due := true } }

/-- The DOZE power-up expiry is due (R180). -/
def dozeDue (s : State) : Bool := decide (s.scu.sleep = .doze) && expired s.scu.dozeExpiry s.now

/-- The DOZE power-up expiry turns TRX_PWR on (R180). -/
def takeDoze (s : State) : State :=
  { s with
    scu := { s.scu with dozeExpiry := none }
    pins := { s.pins with trxPwr := true } }

/-! ### Calibration (R182, R183) -/

/-- The candidate ratio R' = C x 2^(24 - n) / 600, rounded half up (R183). -/
def candidateRatio (c n : Nat) : Nat := (c * 2 ^ (24 - n) + 300) / 600

/-- A running calibration completes with C fast cycles counted (R183). -/
def finishCalibration (n c : Nat) (s : State) : State :=
  let r := candidateRatio c n
  let accepted := decide (16367616 ≤ r) && decide (r ≤ 16400384)
  let s1 :=
    if accepted then
      { s with scu := { s.scu with
          cal := .idle
          ratio := r
          valid := true
          lastCal := some s.now
          recalExpiry := some (addTicks s.now s.scu.interval)
          due := false } }
    else { s with scu := { s.scu with cal := .idle } }
  noteEval (post .apt
    (mkEvent s (if accepted then .calDone else .calOutOfRange) false none (some n) none (oct32 r ++ oct32 c)) s1)

/-- A running calibration has counted its 2^n slow cycles (R182). -/
def calCounted (s : State) : Bool :=
  match s.scu.cal with
  | .running r => decide (2 ^ r.n ≤ r.slow)
  | _ => false

/-- The completion at the 2^n-th slow cycle, with C the fast cycles counted over them (R182, R183). -/
def takeCalibration (s : State) : State :=
  match s.scu.cal with
  | .running r => finishCalibration r.n r.fast s
  | _ => s

/-- A slow-clock edge with a calibration RUNNING (R182): the first opens the window, each later one counts a slow
cycle and the fast cycles in it. -/
def countCalibration (fast : Nat) (s : State) : State :=
  match s.scu.cal with
  | .running r =>
    let r1 := if r.counting then { r with slow := r.slow + 1, fast := r.fast + fast } else { r with counting := true }
    { s with scu := { s.scu with cal := .running r1 } }
  | _ => s

/-! ### Taking what is due (R4) -/

/-- Every expiry that is due at the current HT is taken, one event after another, in one order among those the
manual allows (R4, log 2). The wake timer is not among them. -/
def settleExpiries (s : State) : State :=
  let s1 := fire windowDue openWindow s
  let s2 := fire endDue takeEnd s1
  let s3 := (List.range 48).foldl (fun x i => fire (graceDue i) (takeGrace i) x) s2
  let s4 := fire startDue takeStart s3
  let s5 := allSubs.foldl (fun x i => fire (repeatDue i) (takeRepeat i) (fire (tttDue i) (takeTtt i) x)) s4
  let s6 := allSubs.foldl (fun x i =>
    (List.range 16).foldl (fun y k => fire (barDue i k) (takeBar i k) y) x) s5
  let s7 := (List.range 4).foldl (fun x i =>
    fire (timerDue .releasing i) (takeRelease i) (fire (timerDue .dialing i) (takeSetup i) x)) s6
  let s8 := (List.range 8).foldl (fun x i => fire (reassemblyDue i) (takeReassembly i) x) s7
  fire calCounted takeCalibration (fire dozeDue takeDoze (fire recalDue takeRecal s8))

/-- The wake timer has run out in DEEP (R190). -/
def wakeDue (s : State) : Bool := decide (s.scu.sleep = .deep) && decide (s.scu.wakeTimer = some 0)

/-- Every expiry that is due, and then the wake timer's: expiries of the tick are taken before the wake (R190). -/
def settle (s : State) : State := fire wakeDue startWaking (settleExpiries s)

/-! ### Advances of HT (R1, R190) -/

/-- One tick of the fast source: the divider count returns to 0 and HT advances (R1). -/
def fastTick (s : State) : State :=
  let s1 := advanceHt s
  { s1 with tlu := { s1.tlu with divider := 0 } }

/-- HT_TICK's effect: what is due is taken first, so that no expiry is stepped over (R4); HT then advances when it
counts from the fast reference (R1, R17). -/
def tick (s : State) : State :=
  let s1 := settle s
  if countingFast s1 then fastTick s1 else s1

/-- Steps 1 to 3 of a slow cycle in DEEP or WAKING (R190): R is added, a carry advances HT, the wake timer counts
down. -/
def slowStep (s : State) : State :=
  let sum := s.scu.acc + s.scu.ratio
  let s1 := if 16777216 ≤ sum then advanceHt s else s
  { s1 with scu := { s1.scu with
      acc := if 16777216 ≤ sum then sum - 16777216 else sum
      wakeTimer := s.scu.wakeTimer.map (fun n => n - 1) } }

/-- SLOW_CYCLE's effect: what is due is taken first; in DEEP and WAKING the cycle carries HT (R190), in AWAKE and DOZE
it counts for a running calibration (R182). -/
def slowCycle (fast : Nat) (s : State) : State :=
  let s1 := settle s
  if s1.scu.sleep.notReady then slowStep s1 else countCalibration fast s1

/-- The next clock event advances HT and brings a subscription's position to 327,680 (R8). -/
def anchorAdvanceDue (i : Sub) (s : State) : Bool :=
  match s.anchor i with
  | some a => decide (position s.now a + 1 = hyperframe)
      && (countingFast s || (s.scu.sleep.notReady && decide (16777216 ≤ s.scu.acc + s.scu.ratio)))
  | none => false

/-- ANCHOR_ADVANCE's effect: the clock event to which the anchor advance belongs (R8, log 3). -/
def clockEvent (s : State) : State := if countingFast s then tick s else slowCycle 0 s

/-! ### REF_READY (R192) -/

/-- REF_READY is acted on: in WAKING, or in AWAKE or DOZE with the reference-up flag clear (R192). -/
def refReadyDue (s : State) : Bool :=
  match s.scu.sleep with
  | .waking => true
  | .deep => false
  | _ => !s.scu.refUp

/-- A port has voted other than STAY_AWAKE (R192, log 18). -/
def anyVote (s : State) : Bool :=
  decide (s.scu.votes.spt0 ≠ .stayAwake) || decide (s.scu.votes.spt1 ≠ .stayAwake) || decide (s.scu.votes.apt ≠ .stayAwake)

/-- REF_READY in WAKING: the fraction is dropped, the source is FAST from a divider of 0, the plan is absent, the
state is AWAKE, a PENDING calibration runs, and an evaluation follows (R192, R2). -/
def readyInWaking (s : State) : State :=
  let s1 := toAwake { s with
    tlu := { s.tlu with source := .fast, divider := 0 }
    scu := { s.scu with acc := 0, refUp := true, plan := none } }
  noteEval (runPending s1)

/-- The first REF_READY after power-on: HT begins to count, a PENDING calibration runs, and an evaluation follows only
when a port has voted since (R192, R17). -/
def readyFirst (s : State) : State :=
  let s1 := runPending { s with
    tlu := { s.tlu with divider := 0 }
    scu := { s.scu with refUp := true } }
  if anyVote s then noteEval s1 else s1

/-- REF_READY's effect (R192). -/
def takeRefReady (s : State) : State :=
  match s.scu.sleep with
  | .waking => readyInWaking s
  | _ => readyFirst s

end Sys2Proof.Machine
end

