-- ==== Sys2Proof/Machine/Operands.lean ====
section
/-! DEFINITION. The operands of request bodies (R207): the shared readers of octets, and for each kind the body
that fits it; a body that does not fit reads as none and is refused MALFORMED (R197). -/
namespace Sys2Proof.Machine

/-! ### Fields -/

/-- Two octets, little-endian (R207). -/
def u16 (lo hi : Octet) : Nat := lo.toNat + 256 * hi.toNat

/-- Four octets, little-endian, as an HT value (R207). -/
def u32 (a b c d : Octet) : HT :=
  BitVec.ofNat 32 (a.toNat + 256 * b.toNat + 65536 * c.toNat + 16777216 * d.toNat)

/-- A signed octet, two's complement (R207). -/
def s8 (o : Octet) : Int := o.toInt

/-- A signed quantity of two octets, two's complement (R207). -/
def s16 (lo hi : Octet) : Int := (BitVec.ofNat 16 (u16 lo hi)).toInt

/-- A subscription by its code (R206, R207). -/
def subOf (n : Nat) : Option Sub :=
  match n with
  | 0 => some .sub0
  | 1 => some .sub1
  | _ => none

/-- An optional operand as received: its presence octet and its value (R207). -/
structure Opt where
  flag : Nat
  val : Nat
deriving DecidableEq, Repr

/-- The presence octet is 0 or 1 (R207). -/
def Opt.ok (o : Opt) : Bool := decide (o.flag ≤ 1)

/-- The operand when it is present (R207). -/
def Opt.get? (o : Opt) : Option Nat := if o.flag = 1 then some o.val else none

/-- An optional operand of one octet. -/
def opt8 (p v : Octet) : Opt := ⟨p.toNat, v.toNat⟩

/-- An optional operand of two octets. -/
def opt16 (p lo hi : Octet) : Opt := ⟨p.toNat, u16 lo hi⟩

/-- A digit string: a length octet, then the symbols (R207); the symbols and what follows. -/
def takeString : List Octet → Option (List Octet × List Octet)
  | [] => none
  | n :: rest => if n.toNat ≤ rest.length then some (rest.take n.toNat, rest.drop n.toNat) else none

/-- A digit string with no symbols is absent (R207). -/
def absentIfEmpty (d : List Octet) : Option (List Octet) :=
  match d with
  | [] => none
  | x :: rest => some (x :: rest)

/-! ### Bodies -/

/-- No operands. -/
def bodyNone : List Octet → Option Unit
  | [] => some ()
  | _ => none

/-- One operand of one octet. -/
def body1 : List Octet → Option Nat
  | [a] => some a.toNat
  | _ => none

/-- Two operands of one octet each. -/
def body2 : List Octet → Option (Nat × Nat)
  | [a, b] => some (a.toNat, b.toNat)
  | _ => none

/-- One operand of two octets: a handle. -/
def bodyHandle : List Octet → Option Nat
  | [a, b] => some (u16 a b)
  | _ => none

/-- ANCHOR_ADJUST(sub, delta). -/
def bodyAdjust : List Octet → Option (Nat × Int)
  | [sub, lo, hi] => some (sub.toNat, s16 lo hi)
  | _ => none

/-- CAMP(sub, code, channel, anchor). -/
structure CampOps where
  sub : Nat
  code : Nat
  channel : Nat
  anchor : HT

/-- The body of CAMP. -/
def bodyCamp : List Octet → Option CampOps
  | [sub, c0, c1, h0, h1, a0, a1, a2, a3] => some ⟨sub.toNat, u16 c0 c1, u16 h0 h1, u32 a0 a1 a2 a3⟩
  | _ => none

/-- POLICY_SET: the miss limit (R36), the tie preferences, W and A (R84), each optional. -/
structure PolicyOps where
  missLimit : Opt
  tie0 : Opt
  tie1 : Opt
  tie2 : Opt
  tie3 : Opt
  w : Opt
  a : Opt

/-- The body of POLICY_SET. -/
def bodyPolicy : List Octet → Option PolicyOps
  | [mp, m, p0, t0, p1, t1, p2, t2, p3, t3, wp, w0, w1, ap, a0, a1] =>
    some ⟨opt8 mp m, opt8 p0 t0, opt8 p1 t1, opt8 p2 t2, opt8 p3 t3, opt16 wp w0 w1, opt16 ap a0 a1⟩
  | _ => none

/-- OCC_SUBMIT's operands (R207). -/
structure SubmitOps where
  sub : Nat
  kind : Nat
  frame : Nat
  slot : Nat
  length : Nat
  period : Nat
  count : Nat
  exact : Nat
  call : Opt
  send : Opt

/-- The body of OCC_SUBMIT: 15 octets (R207). -/
def bodySubmit : List Octet → Option SubmitOps
  | [sub, kind, f0, f1, slot, len, p0, p1, c0, c1, exact, cp, c, sp, sd] =>
    some ⟨sub.toNat, kind.toNat, u16 f0 f1, slot.toNat, len.toNat, u16 p0 p1, u16 c0 c1, exact.toNat, opt8 cp c,
      opt8 sp sd⟩
  | _ => none

/-- OCC_PERIOD(handle, period). -/
def bodyPeriod : List Octet → Option (Nat × Nat)
  | [h0, h1, p0, p1] => some (u16 h0 h1, u16 p0 p1)
  | _ => none

/-- OCC_DONE(handle, result). -/
def bodyDone : List Octet → Option (Nat × Nat)
  | [h0, h1, r] => some (u16 h0 h1, r.toNat)
  | _ => none

/-- One item of CELL_LIST_SET: code, channel, offset. -/
structure CellItem where
  code : Nat
  channel : Nat
  offset : Int
deriving DecidableEq, Repr

/-- Items of five octets each. -/
def cellItems : List Octet → Option (List CellItem)
  | [] => some []
  | c0 :: c1 :: h0 :: h1 :: o :: rest =>
    match cellItems rest with
    | some l => some (⟨u16 c0 c1, u16 h0 h1, s8 o⟩ :: l)
    | none => none
  | _ => none

/-- The body of CELL_LIST_SET: sub, a count octet and the items. -/
def bodyCellList : List Octet → Option (Nat × List CellItem)
  | sub :: count :: rest =>
    match cellItems rest with
    | some l => if l.length = count.toNat then some (sub.toNat, l) else none
    | none => none
  | _ => none

/-- One sample of MEAS_REPORT (R207). -/
structure Sample where
  code : Nat
  channel : Nat
  level : Int
  present : Nat
  timing : HT
deriving DecidableEq, Repr

/-- Samples of 11 octets each (R207). -/
def samples : List Octet → Option (List Sample)
  | [] => some []
  | c0 :: c1 :: h0 :: h1 :: l0 :: l1 :: p :: t0 :: t1 :: t2 :: t3 :: rest =>
    match samples rest with
    | some l => some (⟨u16 c0 c1, u16 h0 h1, s16 l0 l1, p.toNat, u32 t0 t1 t2 t3⟩ :: l)
    | none => none
  | _ => none

/-- The body of MEAS_REPORT: sub, a count octet and the samples (R207). -/
def bodyMeas : List Octet → Option (Nat × List Sample)
  | sub :: count :: rest =>
    match samples rest with
    | some l => if l.length = count.toNat then some (sub.toNat, l) else none
    | none => none
  | _ => none

/-- CELL_CONFIG: the six settings, each optional (R109). -/
structure ConfigOps where
  sub : Nat
  k : Opt
  h : Opt
  ttt : Opt
  mode : Opt
  rep : Opt
  bar : Opt

/-- The body of CELL_CONFIG. -/
def bodyCellConfig : List Octet → Option ConfigOps
  | [sub, kp, k, hp, h, tp, t0, t1, mp, m, rp, r0, r1, bp, b0, b1] =>
    some ⟨sub.toNat, opt8 kp k, opt8 hp h, opt16 tp t0 t1, opt8 mp m, opt16 rp r0 r1, opt16 bp b0 b1⟩
  | _ => none

/-- SWITCH_BEGIN(sub, target, frame, slot, length). -/
structure BeginOps where
  sub : Nat
  target : Nat
  frame : Nat
  slot : Nat
  length : Nat

/-- The body of SWITCH_BEGIN. -/
def bodyBegin : List Octet → Option BeginOps
  | [sub, t, f0, f1, s, l] => some ⟨sub.toNat, t.toNat, u16 f0 f1, s.toNat, l.toNat⟩
  | _ => none

/-- SWITCH_END(sub, result, anchor). -/
structure EndOps where
  sub : Nat
  result : Nat
  present : Nat
  anchor : HT

/-- The body of SWITCH_END. -/
def bodyEnd : List Octet → Option EndOps
  | [sub, r, p, a0, a1, a2, a3] => some ⟨sub.toNat, r.toNat, p.toNat, u32 a0 a1 a2 a3⟩
  | _ => none

/-- CALL_DIAL(sub, digits). -/
def bodyDial : List Octet → Option (Nat × List Octet)
  | sub :: rest =>
    match takeString rest with
    | some (d, []) => some (sub.toNat, d)
    | _ => none
  | _ => none

/-- CALL_INCOMING(sub, reference, digits). -/
def bodyIncoming : List Octet → Option (Nat × Nat × List Octet)
  | sub :: r0 :: r1 :: rest =>
    match takeString rest with
    | some (d, []) => some (sub.toNat, u16 r0 r1, d)
    | _ => none
  | _ => none

/-- CALL_PROGRESS(ctx, stage, cause, reference). -/
structure ProgressOps where
  ctx : Nat
  stage : Nat
  cause : Nat
  reference : Opt

/-- The body of CALL_PROGRESS. -/
def bodyProgress : List Octet → Option ProgressOps
  | [ctx, st, c, p, r0, r1] => some ⟨ctx.toNat, st.toNat, c.toNat, opt16 p r0 r1⟩
  | _ => none

/-- CALL_CONFIG(setup limit, release limit), in seconds. -/
def bodyCallConfig : List Octet → Option (Opt × Opt)
  | [p, a0, a1, q, b0, b1] => some (opt16 p a0 a1, opt16 q b0 b1)
  | _ => none

/-- TEXT_SEGMENT_IN's operands (R207). -/
structure SegmentOps where
  sub : Nat
  reference : Nat
  total : Nat
  sequence : Nat
  originator : List Octet
  payload : List Octet

/-- The body of TEXT_SEGMENT_IN (R207). -/
def bodySegment : List Octet → Option SegmentOps
  | sub :: r :: t :: q :: rest =>
    match takeString rest with
    | some (o, p) => some ⟨sub.toNat, r.toNat, t.toNat, q.toNat, o, p⟩
    | none => none
  | _ => none

/-- TEXT_CONFIG(timeout, partial). -/
def bodyTextConfig : List Octet → Option (Opt × Opt)
  | [p, a0, a1, q, b] => some (opt16 p a0 a1, opt8 q b)
  | _ => none

/-- TEXT_COMPOSE(sub, destination, count, persist). -/
structure ComposeOps where
  sub : Nat
  dest : List Octet
  count : Nat
  persist : Nat

/-- The body of TEXT_COMPOSE. -/
def bodyCompose : List Octet → Option ComposeOps
  | sub :: rest =>
    match takeString rest with
    | some (d, [c, p]) => some ⟨sub.toNat, d, c.toNat, p.toNat⟩
    | _ => none
  | _ => none

/-- TEXT_FILL(send, sequence, payload). -/
def bodyFill : List Octet → Option (Nat × Nat × List Octet)
  | s :: q :: payload => some (s.toNat, q.toNat, payload)
  | _ => none

/-- TEXT_TAKE(send, sequence, serial). -/
def bodyTake : List Octet → Option (Nat × Nat × Opt)
  | [s, q, p, a, b] => some (s.toNat, q.toNat, opt16 p a b)
  | _ => none

/-- TEXT_SEGMENT_RESULT(send, sequence, outcome, cause, serial). -/
structure ResultOps where
  send : Nat
  sequence : Nat
  outcome : Nat
  cause : Nat
  serial : Opt

/-- The body of TEXT_SEGMENT_RESULT. -/
def bodyResult : List Octet → Option ResultOps
  | [s, q, o, c, p, a, b] => some ⟨s.toNat, q.toNat, o.toNat, c.toNat, opt16 p a b⟩
  | _ => none

/-- SLEEP_CONFIG: L, U, the recalibration interval and n, each optional (R194). -/
structure SleepOps where
  lead : Opt
  ppm : Opt
  interval : Opt
  winExp : Opt

/-- The body of SLEEP_CONFIG. -/
def bodySleep : List Octet → Option SleepOps
  | [lp, l0, l1, up, u0, u1, ip, i0, i1, np, n] =>
    some ⟨opt16 lp l0 l1, opt16 up u0 u1, opt16 ip i0 i1, opt8 np n⟩
  | _ => none

/-- EVENT_CONFIG: mode, URGENT mask, ROUTINE mask and quiet, each optional (R204). -/
structure EventOps where
  mode : Opt
  maskU : Opt
  maskR : Opt
  quiet : Opt

/-- The body of EVENT_CONFIG. -/
def bodyEvent : List Octet → Option EventOps
  | [mp, m, up, u, rp, r, qp, q] => some ⟨opt8 mp m, opt8 up u, opt8 rp r, opt8 qp q⟩
  | _ => none

end Sys2Proof.Machine
end

