-- ==== Sys2Proof/Machine/Serve.lean ====
section
/-! DEFINITION. The life of a request: permission, framing, the kind's own rule, the refusal latch and the response. -/
namespace Sys2Proof.Machine

/-- The ports a kind is permitted on (R198). -/
inductive Permitted where
  | everyPort | aptOnly | stackOnly
deriving DecidableEq, Repr

/-- A kind is permitted on a port (R198). -/
def Permitted.on (a : Permitted) (p : Port) : Bool :=
  match a, p with
  | .everyPort, _ => true
  | .aptOnly, .apt => true
  | .aptOnly, _ => false
  | .stackOnly, .apt => false
  | .stackOnly, _ => true

/-- Taken with status OK. -/
def ok (s : State) (body : Out) : Reply := .taken .ok s body

/-- Refused with an empty body. -/
def refuse (st : Status) : Reply := .refused st []

/-- Give the answer to a request: a taken one has the evaluation it owes made and is answered; a refused one leaves
every block as it was and reaches the latch (R196, R199, R200). -/
def conclude (kind : Octet) (p : Port) (tag : Octet) (s : State) (r : Reply) : Host.Outcome State Fault Refusal :=
  match r with
  | .taken st s' body => commit (respond p tag st body (runEval s'))
  | .refused st body => commit (respond p tag st body (latchRefusal p kind tag st s))

/-- The framing checks of R197 in their order, then the kind's own rule. `parse` reads a body that fits. -/
def frameCheck {β : Type} (a : Permitted) (p : Port) (body : List Octet) (parse : List Octet → Option β)
    (run : β → State → Reply) (s : State) : Reply :=
  if !a.on p then refuse .unsupported
  else if 248 < body.length then refuse .malformed
  else match parse body with
    | some b => run b s
    | none => refuse .malformed

/-- A request in one event (R196, R197). While the reset pin is asserted it is aborted (R208). -/
def serve {β : Type} (kind : Octet) (a : Permitted) (p : Port) (tag : Octet) (body : List Octet)
    (parse : List Octet → Option β) (run : β → State → Reply) (s : State) : Host.Outcome State Fault Refusal :=
  if s.inReset then commit (noResponse p s)
  else conclude kind p tag s (frameCheck a p body parse run s)

/-- The first two checks of a stack-port request that names a subscription (R21). -/
def withSub (p : Port) (sub : Nat) (s : State) (k : Sub → Reply) : Reply :=
  match subOf sub with
  | some i => if s.boundTo i p then k i else refuse .notBound
  | none => refuse .badField

/-- A configuration value clamped to its range. -/
def clamp (lo hi n : Nat) : Nat := if n < lo then lo else if hi < n then hi else n

/-- Every presence octet of a list of optional operands is 0 or 1 (R207, log 21). -/
def presenceOk (l : List Opt) : Bool := l.all (fun o => o.ok)

/-- An optional HT value of a response. -/
def optHt (t : Option HT) : Out := optional 4 (t.map octHt)

/-- An optional octet of a response. -/
def opt1 (n : Option Nat) : Out := optional 1 (n.map oct8)

/-- An optional two-octet value of a response. -/
def opt2 (n : Option Nat) : Out := optional 2 (n.map oct16)

end Sys2Proof.Machine
end

