-- ==== Sys2Proof/Machine/Calendar.lean ====
section
/-! DEFINITION. The calendar's requests: OCC_SUBMIT, OCC_CANCEL, OCC_PERIOD, OCC_LIST and OCC_DONE. -/
namespace Sys2Proof.Machine

/-- The kind an OCC_SUBMIT may name: all but SWITCH (R45, R207). -/
def submitKind (n : Nat) : Option OccKind :=
  match n with
  | 0 => some .page
  | 1 => some .meas
  | 2 => some .text
  | 3 => some .traffic
  | 4 => some .access
  | _ => none

/-- A link operand is in 0..3 when present (R45). -/
def linkOk (o : Opt) : Bool :=
  match o.get? with
  | some n => decide (n ≤ 3)
  | none => true

/-- An occurrence with its grace fits a period in frames (R45, R54). -/
def fitsPeriod (length period : Nat) : Bool := decide (length * 16 + 128 < period * 320)

/-- The operand checks of OCC_SUBMIT (R45). -/
def submitOk (k : OccKind) (o : SubmitOps) : Bool :=
  decide (o.frame ≤ 1023) && decide (o.slot ≤ 19) && decide (1 ≤ o.length) && decide (o.length ≤ 64)
    && decide (o.period ≤ 1024) && decide (o.exact ≤ 1) && presenceOk [o.call, o.send]
    && linkOk o.call && linkOk o.send
    && (decide (k ≠ .traffic) || o.call.get?.isSome)
    && (o.call.get?.isNone || decide (k = .traffic) || decide (k = .access))
    && (o.send.get?.isNone || decide (k = .text))
    && (decide (o.period = 0) || fitsPeriod o.length o.period)

/-- A context state that takes a linked TRAFFIC record (R46). -/
def CtxState.carriesTraffic : CtxState → Bool
  | .setup => true
  | .alerting => true
  | .connected => true
  | .held => true
  | _ => false

/-- The call link names a context that takes the record (R46, check 6). -/
def callLinkOk (s : State) (i : Sub) (k : OccKind) (link : Option Nat) : Bool :=
  match link with
  | some n => match s.ctx n with
    | some c => c.isOf i && (decide (k ≠ .traffic) || c.state.carriesTraffic)
    | none => false
  | none => true

/-- The send link names a send that is SENDING on the subscription (R46, check 7). -/
def sendLinkOk (s : State) (i : Sub) (link : Option Nat) : Bool :=
  match link with
  | some n => match s.send n with
    | some r => decide (r.state = .sending) && decide (r.sub = i)
    | none => false
  | none => true

/-- A record with the same subscription, kind and start is held (R46, check 9). -/
def duplicateOcc (s : State) (i : Sub) (k : OccKind) (start : HT) : Bool :=
  (records s).any (fun x => decide (x.2.sub = i) && decide (x.2.kind = k) && decide (x.2.start = start))

/-- The record a taken OCC_SUBMIT makes (R47). -/
def submitRecord (i : Sub) (k : OccKind) (o : SubmitOps) (start anchor : HT) : Occasion :=
  { sub := i, kind := k, frame := o.frame, slot := o.slot, length := o.length, start := start, period := o.period,
    stagedPeriod := none, remaining := if o.period = 0 then 1 else o.count, callLink := o.call.get?,
    sendLink := o.send.get?, state := .waiting, endHt := none, grace := none, placement := anchor }

/-- The checks of R46 from order 8 on, and the making of the record (R47). -/
def admitted (i : Sub) (k : OccKind) (o : SubmitOps) (anchor : HT) (s : State) : Reply :=
  let start := convert s.now anchor o.frame o.slot
  if o.period = 0 ∧ o.exact = 1 ∧ before (firstCandidate anchor o.frame o.slot) (earliestStart s.now) = true then
    refuse .tooSoon
  else if duplicateOcc s i k start then refuse .duplicate
  else if 48 ≤ recordCount s then refuse .calendarFull
  else if 32 ≤ subRecordCount s i then refuse .quota
  else match makeRecord (submitRecord i k o start anchor) s with
    | some (slot, s1) => ok s1 (lit (oct16 (handleAt s1 slot) ++ octHt start))
    | none => refuse .calendarFull

/-- OCC_SUBMIT's checks in the order of R46. -/
def runOccSubmit (p : Port) (o : SubmitOps) (s : State) : Reply :=
  withSub p o.sub s (fun i =>
    match submitKind o.kind with
    | some k =>
      if submitOk k o = false then refuse .badField
      else if (s.sub i).state = .detached then refuse .subState
      else match s.anchor i with
        | some a =>
          if callLinkOk s i k o.call.get? = false then refuse .callState
          else if sendLinkOk s i o.send.get? = false then refuse .sendState
          else admitted i k o a s
        | none => refuse .noTiming
    | none => refuse .badField)

/-- OCC_SUBMIT (R45, R46, R47). -/
def execOccSubmit (p : Port) (tag : Octet) (body : List Octet) (s : State) : Host.Outcome State Fault Refusal :=
  serve 10 .stackOnly p tag body bodySubmit (runOccSubmit p) s

/-- A handle judged for OCC_CANCEL and OCC_PERIOD (R42, R53): a late handle is refused STALE_HANDLE once its
subscription is found bound. -/
def withLive (p : Port) (h : Nat) (s : State) (k : Nat → Occasion → Reply) : Reply :=
  match judge h s with
  | .outOfRange => refuse .badField
  | .stale => refuse .staleHandle
  | .late sub => if s.boundTo sub p then refuse .staleHandle else refuse .notBound
  | .live i o _ => if s.boundTo o.sub p then k i o else refuse .notBound

/-- OCC_CANCEL (R53). -/
def runOccCancel (p : Port) (h : Nat) (s : State) : Reply :=
  withLive p h s (fun i o =>
    if o.kind = .switch then refuse .occState
    else ok (removeRecord compareMiss i s) (lit (oct8 o.state.code)))

/-- OCC_CANCEL (R53). -/
def execOccCancel (p : Port) (tag : Octet) (body : List Octet) (s : State) : Host.Outcome State Fault Refusal :=
  serve 11 .stackOnly p tag body bodyHandle (runOccCancel p) s

/-- OCC_PERIOD (R54). -/
def runOccPeriod (p : Port) (x : Nat × Nat) (s : State) : Reply :=
  withLive p x.1 s (fun i o =>
    if o.period = 0 then refuse .badField
    else if x.2 < 1 ∨ 1024 < x.2 then refuse .badField
    else if fitsPeriod o.length x.2 = false then refuse .badField
    else ok (s.modSlot i (fun sl => { sl with occ := some { o with stagedPeriod := some x.2 } }))
      (lit (oct16 o.period ++ oct16 x.2)))

/-- OCC_PERIOD (R54). -/
def execOccPeriod (p : Port) (tag : Octet) (body : List Octet) (s : State) : Host.Outcome State Fault Refusal :=
  serve 12 .stackOnly p tag body bodyPeriod (runOccPeriod p) s

/-- The late mark of a slot. -/
def lateAt (s : State) (i : Nat) : Bool :=
  match s.ocl.slots[i]? with
  | some sl => sl.late
  | none => false

/-- One item of OCC_LIST (R56). The call link and the send link are two optional octets (log 28). -/
def listItem (s : State) (x : Nat × Occasion) : Out :=
  let o := x.2
  lit (oct16 (handleAt s x.1) ++ oct8 o.kind.code ++ oct8 o.state.code ++ oct16 o.frame ++ oct8 o.slot
      ++ octHt o.start ++ oct8 o.length ++ oct16 o.period)
    ++ opt2 o.stagedPeriod ++ lit (oct16 o.remaining) ++ opt1 o.callLink ++ opt1 o.sendLink
    ++ lit (octFlag (lateAt s x.1))

/-- OCC_LIST (R56). -/
def runOccList (p : Port) (x : Nat × Nat) (s : State) : Reply :=
  withSub p x.1 s (fun i =>
    if 31 < x.2 then refuse .badField
    else
      let items := (((calendarOrder s).filter (fun y => decide (y.2.sub = i))).drop x.2).take 8
      ok s (lit (oct8 (subRecordCount s i) ++ oct8 items.length) ++ (items.map (listItem s)).flatten))

/-- OCC_LIST (R56). -/
def execOccList (p : Port) (tag : Octet) (body : List Octet) (s : State) : Host.Outcome State Fault Refusal :=
  serve 13 .stackOnly p tag body body2 (runOccList p) s

/-- The effect of a taken OCC_DONE on the record in a slot (R78): a GRANTED record is released first, a PAGE gives
the confirm notice, and the occurrence is resolved DONE. -/
def doneEffect (i : Nat) (o : Occasion) (s : State) : State :=
  let s1 := if o.state = .granted then releaseGrant s else s
  let s2 := if o.kind = .page then confirmNotice o.sub s1 else s1
  noteEval (resolve .done i s2)

/-- OCC_DONE's checks in the order of R77 and its response (R78): the state it had, what re-arm did, the result. What
re-arm did is an optional HT: the new start, or presence octet 0 where the record was removed (log 28). -/
def runOccDone (p : Port) (x : Nat × Nat) (s : State) : Reply :=
  if 48 ≤ x.1 % 64 ∨ 1 < x.2 then refuse .badField
  else match judge x.1 s with
    | .outOfRange => refuse .badField
    | .stale => refuse .staleHandle
    | .late sub => if s.boundTo sub p then refuse .late else refuse .notBound
    | .live i o late =>
      if s.boundTo o.sub p = false then refuse .notBound
      else if o.kind = .switch then refuse .occState
      else if o.state = .waiting then refuse (if late then .late else .occState)
      else
        let s1 := doneEffect i o s
        ok s1 (lit (oct8 o.state.code) ++ optHt ((s1.occ i).map (fun y => y.start)) ++ lit (oct8 x.2))

/-- OCC_DONE (R77, R78). -/
def execOccDone (p : Port) (tag : Octet) (body : List Octet) (s : State) : Host.Outcome State Fault Refusal :=
  serve 14 .stackOnly p tag body bodyDone (runOccDone p) s

end Sys2Proof.Machine
end

