-- ==== Sys2Proof/Machine/Calls.lean ====
section
/-! DEFINITION. The call requests: CALL_DIAL, CALL_ANSWER, CALL_HOLD, CALL_RESUME, CALL_HANGUP, CALL_INCOMING,
CALL_PROGRESS, CALL_LIST and CALL_CONFIG. -/
namespace Sys2Proof.Machine

/-- The lowest-numbered IDLE context (R127). -/
def idleContext (s : State) : Option Nat := s.cct.ctxs.findIdx? (fun c => decide (c.state = .idle))

/-- The context a new call of a subscription takes, if it may take one (R127, R131 check 5, R135 check 6). -/
def contextFor (s : State) (i : Sub) : Option Nat := if 2 ≤ ctxCount s i then none else idleContext s

/-- Take a context for a new call: every call field is set anew; its state changes afterwards (R127). -/
def takeContext (n : Nat) (i : Sub) (d : Direction) (digits : Option (List Octet)) (reference : Option Nat)
    (s : State) : State :=
  s.setCtx n
    { state := .idle, sub := some i, direction := some d, digits := digits, reference := reference, audio := false,
      cause := none, started := some s.now, connected := none, timer := none }

/-- A subscription state in which calls may begin: CAMPED or SWITCHING (R131, R135). -/
def SubState.mayCall : SubState → Bool
  | .camped => true
  | .switching => true
  | _ => false

/-! ### Requests from the application processor -/

/-- The dialled context becomes DIALING with its setup expiry, and CALL_REQUEST goes to the bound port (R131). -/
def dialEffect (n : Nat) (i : Sub) (digits : List Octet) (s : State) : State :=
  let s1 := takeContext n i .mo (some digits) none s
  changeCtx compareMiss n
    { state := .dialing, timer := some (addTicks s.now s.cct.setupLimit), cause := none, connected := none }
    (fun x => postBound i (mkEvent x .callRequest true (some i) (some n) none (oct8 digits.length)) x) s1

/-- CALL_DIAL's checks in the order of R131. -/
def runCallDial (o : Nat × List Octet) (s : State) : Reply :=
  match subOf o.1 with
  | some i =>
    if o.2.length < 1 ∨ digitsOk 32 o.2 = false then refuse .badField
    else if (s.sub i).state.mayCall = false then refuse .subState
    else if inCall s i.other then refuse .otherLineActive
    else match contextFor s i with
      | some n => ok (dialEffect n i o.2 s) (lit (oct8 n ++ octHt (addTicks s.now s.cct.setupLimit)))
      | none => refuse .noContext
  | none => refuse .badField

/-- CALL_DIAL (R131). -/
def execCallDial (p : Port) (tag : Octet) (body : List Octet) (s : State) : Host.Outcome State Fault Refusal :=
  serve 22 .aptOnly p tag body bodyDial runCallDial s

/-- CALL_ANSWER (R132): forwarded to the stack; no context changes. -/
def runCallAnswer (n : Nat) (s : State) : Reply :=
  match s.ctx n with
  | some c =>
    match c.sub with
    | some i =>
      if c.state ≠ .alerting ∨ c.direction ≠ some .mt then refuse .callState
      else if inCall s i.other then refuse .otherLineActive
      else ok (postCall .callAnswerReq true n c none (referenceDetail c) s) []
    | none => refuse .callState
  | none => refuse .badField

/-- CALL_ANSWER (R132). -/
def execCallAnswer (p : Port) (tag : Octet) (body : List Octet) (s : State) : Host.Outcome State Fault Refusal :=
  serve 23 .aptOnly p tag body body1 runCallAnswer s

/-- CALL_HOLD and CALL_RESUME: in the state they need, forwarded to the stack as an event (R133). -/
def forward (need : CtxState) (kind : EventKind) (n : Nat) (s : State) : Reply :=
  match s.ctx n with
  | some c =>
    if c.state ≠ need then refuse .callState
    else ok (postCall kind false n c none (referenceDetail c) s) []
  | none => refuse .badField

/-- CALL_HOLD (R133). -/
def execCallHold (p : Port) (tag : Octet) (body : List Octet) (s : State) : Host.Outcome State Fault Refusal :=
  serve 24 .aptOnly p tag body body1 (forward .connected .callHoldReq) s

/-- CALL_RESUME (R133). -/
def execCallResume (p : Port) (tag : Octet) (body : List Octet) (s : State) : Host.Outcome State Fault Refusal :=
  serve 25 .aptOnly p tag body body1 (forward .held .callResumeReq) s

/-- The effect of a taken CALL_HANGUP (R134). -/
def hangupEffect (n : Nat) (c : CallCtx) (s : State) : State :=
  changeCtx compareMiss n (toReleasing s c .userHangup)
    (postCall .callReleaseReq true n c (some .userHangup) (referenceDetail c)) s

/-- The octets of a timer that is held. -/
def timerBody (t : Option HT) : Out :=
  match t with
  | some x => lit (octHt x)
  | none => []

/-- CALL_HANGUP (R134). -/
def runCallHangup (n : Nat) (s : State) : Reply :=
  match s.ctx n with
  | some c =>
    match c.state with
    | .idle => refuse .callState
    | .releasing => ok s (timerBody c.timer)
    | _ => ok (hangupEffect n c s) (lit (octHt (addTicks s.now s.cct.releaseLimit)))
  | none => refuse .badField

/-- CALL_HANGUP (R134). -/
def execCallHangup (p : Port) (tag : Octet) (body : List Octet) (s : State) : Host.Outcome State Fault Refusal :=
  serve 26 .aptOnly p tag body body1 runCallHangup s

/-! ### Requests from the stack -/

/-- The incoming call's context becomes ALERTING (R135). -/
def incomingEffect (n : Nat) (i : Sub) (reference : Nat) (digits : List Octet) (s : State) : State :=
  changeCtx compareMiss n { state := .alerting, timer := none, cause := none, connected := none } (fun x => x)
    (takeContext n i .mt (absentIfEmpty digits) (some reference) s)

/-- A context of the subscription holds a stack call reference (R135, check 5). -/
def referenceHeld (s : State) (i : Sub) (reference : Nat) : Bool :=
  s.cct.ctxs.any (fun c => c.isOf i && decide (c.reference = some reference))

/-- CALL_INCOMING's checks in the order of R135. -/
def runCallIncoming (p : Port) (o : Nat × Nat × List Octet) (s : State) : Reply :=
  withSub p o.1 s (fun i =>
    if digitsOk 32 o.2.2 = false then refuse .badField
    else if (s.sub i).state.mayCall = false then refuse .subState
    else if referenceHeld s i o.2.1 then refuse .duplicate
    else match contextFor s i with
      | some n => ok (incomingEffect n i o.2.1 o.2.2 s) (lit (oct8 n))
      | none => refuse .noContext)

/-- CALL_INCOMING (R135). -/
def execCallIncoming (p : Port) (tag : Octet) (body : List Octet) (s : State) : Host.Outcome State Fault Refusal :=
  serve 27 .stackOnly p tag body bodyIncoming (runCallIncoming p) s

/-- The stages of CALL_PROGRESS, coded from 0 in the order of R136. -/
inductive Stage where
  | setup | alerting | connected | held | resumed | released
deriving DecidableEq, Repr

/-- A stage by its code (R136). -/
def stageOf (n : Nat) : Option Stage :=
  match n with
  | 0 => some .setup
  | 1 => some .alerting
  | 2 => some .connected
  | 3 => some .held
  | 4 => some .resumed
  | 5 => some .released
  | _ => none

/-- A reference present on a context that holds none is stored when the stage is applied (R136). -/
def storeReference (n : Nat) (c : CallCtx) (reference : Option Nat) (s : State) : State :=
  s.setCtx n { c with reference := c.reference.or reference }

/-- The context with its reference after the store (R136). -/
def withReference (c : CallCtx) (reference : Option Nat) : CallCtx := { c with reference := c.reference.or reference }

/-- Another context of the subscription is CONNECTED (R137, R138). -/
def otherConnected (s : State) (n : Nat) (i : Sub) : Bool :=
  s.cct.ctxs.zipIdx.any (fun x => decide (x.2 ≠ n) && x.1.isOf i && decide (x.1.state = .connected))

/-- A plain move of a context: no timer, the cause and the connected HT kept (R137). -/
def moveTo (c : CallCtx) (st : CtxState) : CtxChange :=
  { state := st, timer := none, cause := c.cause, connected := c.connected }

/-- A stage that is applied and answered with the new state (R137). -/
def applyStage (n : Nat) (c : CallCtx) (reference : Option Nat) (ch : CtxChange) (s : State) : Reply :=
  ok (changeCtx compareMiss n ch (fun x => x) (storeReference n c reference s)) (lit (oct8 ch.state.code))

/-- The conversion of a CONNECTED to a release (R138, order 2). -/
def convertEffect (n : Nat) (c : CallCtx) (reference : Option Nat) (s : State) : State :=
  changeCtx compareMiss n (toReleasing s c .otherLineActive)
    (postCall .callReleaseReq true n c (some .otherLineActive) (referenceDetail (withReference c reference)))
    (storeReference n c reference s)

/-- The stage CONNECTED in SETUP or ALERTING (R138). -/
def stageConnected (n : Nat) (i : Sub) (c : CallCtx) (reference : Option Nat) (s : State) : Reply :=
  if otherConnected s n i then refuse .callState
  else if inCall s i.other then ok (convertEffect n c reference s)
    (lit (oct8 CtxState.releasing.code ++ oct8 Cause.otherLineActive.code))
  else if s.cct.hold.get i.other then refuse .otherLineActive
  else applyStage n c reference { state := .connected, timer := none, cause := c.cause, connected := some s.now } s

/-- A stage on a context by its state (R137, R138). -/
def applyProgress (n : Nat) (i : Sub) (c : CallCtx) (st : Stage) (cause : Nat) (reference : Option Nat) (s : State) :
    Reply :=
  match st, c.state with
  | .setup, .dialing => applyStage n c reference (moveTo c .setup) s
  | .alerting, .setup => applyStage n c reference (moveTo c .alerting) s
  | .connected, .setup => stageConnected n i c reference s
  | .connected, .alerting => stageConnected n i c reference s
  | .held, .connected => applyStage n c reference (moveTo c .held) s
  | .resumed, .held =>
    if otherConnected s n i then refuse .callState else applyStage n c reference (moveTo c .connected) s
  | .released, _ => applyStage n c reference (toIdle c .network cause) s
  | _, _ => refuse .callState

/-- CALL_PROGRESS's common checks in the order of R136. -/
def runCallProgress (p : Port) (o : ProgressOps) (s : State) : Reply :=
  match s.ctx o.ctx, stageOf o.stage with
  | some c, some st =>
    if o.reference.ok = false then refuse .badField
    else if c.state = .idle then refuse .callState
    else match c.sub with
      | some i =>
        if s.boundTo i p = false then refuse .notBound
        else if o.reference.get?.isSome ∧ c.reference.isSome ∧ o.reference.get? ≠ c.reference then refuse .callState
        else applyProgress o.ctx i c st o.cause o.reference.get? s
      | none => refuse .notBound
  | _, _ => refuse .badField

/-- CALL_PROGRESS (R136 to R138). -/
def execCallProgress (p : Port) (tag : Octet) (body : List Octet) (s : State) : Host.Outcome State Fault Refusal :=
  serve 28 .stackOnly p tag body bodyProgress (runCallProgress p) s

/-! ### Listing and configuration -/

/-- A port sees a context's call fields: the APT always, a stack port when the context's sub field names a
subscription bound to it (R144). -/
def seesContext (s : State) (p : Port) (c : CallCtx) : Bool :=
  match p with
  | .apt => true
  | _ => match c.sub with
    | some i => s.boundTo i p
    | none => false

/-- A context as CALL_LIST gives it (R144); `c` is the context whose call fields are reported.
The audio flag has no presence octet and is 0 when hidden. One presence octet stands before the release cause and the
stack's cause value (log 28), which is 0 beside a cause other than NETWORK (log 33). -/
def contextItem (n : Nat) (st : CtxState) (c : CallCtx) (timer : Option HT) : Out :=
  lit (oct8 n ++ oct8 st.code) ++ opt1 (c.sub.map Sub.code) ++ opt1 (c.direction.map Direction.code)
    ++ lit (octString c.digits) ++ opt2 c.reference ++ lit (octFlag c.audio)
    ++ optional 2 (c.cause.map (fun r => oct8 r.cause.code ++ oct8 r.stack))
    ++ optHt c.started ++ optHt c.connected ++ optHt timer

/-- A context as a port sees it: hidden call fields are marked absent (R144). The timer
expiry is no call field and is given (log 33). -/
def contextSeen (s : State) (p : Port) (x : CallCtx × Nat) : Out :=
  contextItem x.2 x.1.state (if seesContext s p x.1 then x.1 else CallCtx.reset) x.1.timer

/-- CALL_LIST (R144). -/
def runCallList (p : Port) (_ : Unit) (s : State) : Reply :=
  ok s ((s.cct.ctxs.zipIdx.map (contextSeen s p)).flatten
    ++ lit (oct8 (selCode s.cct.audioSel) ++ octFlag (inCall s .sub0) ++ octFlag (inCall s .sub1)))

/-- CALL_LIST (R144). -/
def execCallList (p : Port) (tag : Octet) (body : List Octet) (s : State) : Host.Outcome State Fault Refusal :=
  serve 29 .everyPort p tag body bodyNone (runCallList p) s

/-- The limits after CALL_CONFIG (R145). -/
def callConfigEffect (o : Opt × Opt) (s : State) : State :=
  { s with cct := { s.cct with
      setupLimit := (match o.1.get? with
        | some n => clamp 1 30 n * 32000
        | none => s.cct.setupLimit)
      releaseLimit := (match o.2.get? with
        | some n => clamp 1 10 n * 32000
        | none => s.cct.releaseLimit) } }

/-- CALL_CONFIG (R145). -/
def runCallConfig (o : Opt × Opt) (s : State) : Reply :=
  if presenceOk [o.1, o.2] then
    let s1 := callConfigEffect o s
    ok s1 (lit (oct16 (s1.cct.setupLimit / 32000) ++ oct16 (s1.cct.releaseLimit / 32000)))
  else refuse .badField

/-- CALL_CONFIG (R145). -/
def execCallConfig (p : Port) (tag : Octet) (body : List Octet) (s : State) : Host.Outcome State Fault Refusal :=
  serve 30 .aptOnly p tag body bodyCallConfig runCallConfig s

end Sys2Proof.Machine
end

