-- ==== Sys2Proof/Machine/CellWatch.lean ====
section
/-! DEFINITION. The cell watch requests: CELL_LIST_SET, MEAS_REPORT and CELL_TABLE_READ. -/
namespace Sys2Proof.Machine

/-! ### CELL_LIST_SET (R91, R92) -/

/-- The cell an item names. -/
def CellItem.cell (x : CellItem) : Cell := { code := x.code, channel := x.channel }

/-- An offset clamped to -15..+15 dB (R91). -/
def clampOffset (z : Int) : Int := if z < -15 then -15 else if 15 < z then 15 else z

/-- Two items hold the same cell (R91, check 5). -/
def hasRepeat : List CellItem → Bool
  | [] => false
  | x :: rest => rest.any (fun y => decide (y.cell = x.cell)) || hasRepeat rest

/-- Passes 1 and 2 on one entry (R92): a neighbour an item names takes the item's offset, another neighbour becomes
EMPTY, and the other entries are left alone. -/
def matchEntryItem (items : List CellItem) (e : CellEntry) : CellEntry :=
  if e.state.neighbour then
    match items.find? (fun x => e.holds x.cell) with
    | some x => { e with offset := clampOffset x.offset }
    | none => CellEntry.emptyEntry
  else e

/-- The number of neighbours pass 2 empties (R92). -/
def emptiedCount (items : List CellItem) (cells : List CellEntry) : Nat :=
  cells.countP (fun e => e.state.neighbour && (items.find? (fun x => e.holds x.cell)).isNone)

/-- Pass 3 for one item (R92): an item no entry holds takes the lowest EMPTY entry as LISTED. -/
def addItem (cells : List CellEntry) (x : CellItem) : List CellEntry :=
  if cells.any (fun e => e.holds x.cell) then cells
  else match cells.findIdx? (fun e => decide (e.state = .empty)) with
    | some k => cells.set k (CellEntry.fresh .listed x.cell (clampOffset x.offset))
    | none => cells

/-- The rebuilt table (R92). -/
def rebuild (items : List CellItem) (cells : List CellEntry) : List CellEntry :=
  items.foldl addItem (cells.map (matchEntryItem items))

/-- The index an item occupies in a table, 255 as the mark that it named the serving cell (R92, log 6). -/
def itemIndex (cells : List CellEntry) (x : CellItem) : Nat :=
  match cells.findIdx? (fun e => e.holds x.cell) with
  | some k => match cells[k]? with
    | some e => if e.state = .serving then 255 else k
    | none => 255
  | none => 255

/-- The table after CELL_LIST_SET, with the evaluation made when the subscription is CAMPED (R92). -/
def listEffect (i : Sub) (items : List CellItem) (s : State) : State :=
  let s1 := s.modWatch i (fun w => { w with cells := rebuild items w.cells })
  if (s.sub i).state = .camped then evaluateCells i s1 else s1

/-- CELL_LIST_SET's checks and response (R91, R92). An item set aside as the serving cell answers its own offset,
clamped (log 30). -/
def runCellListSet (p : Port) (o : Nat × List CellItem) (s : State) : Reply :=
  withSub p o.1 s (fun i =>
    if 15 < o.2.length ∨ o.2.any (fun x => decide (1023 < x.code)) = true then refuse .badField
    else if (s.sub i).state = .detached ∨ (s.sub i).state = .switching then refuse .subState
    else if hasRepeat o.2 then refuse .duplicate
    else
      let cells := rebuild o.2 (s.watch i).cells
      ok (listEffect i o.2 s) (lit (oct8 o.2.length
        ++ (o.2.map (fun x => oct8 (itemIndex cells x) ++ octInt8 (clampOffset x.offset))).flatten
        ++ oct8 (emptiedCount o.2 (s.watch i).cells))))

/-- CELL_LIST_SET (R91, R92). -/
def execCellListSet (p : Port) (tag : Octet) (body : List Octet) (s : State) : Host.Outcome State Fault Refusal :=
  serve 15 .stackOnly p tag body bodyCellList (runCellListSet p) s

/-! ### MEAS_REPORT (R95 to R99) -/

/-- A sample's operands are in range (R95, check 3). -/
def sampleOk (x : Sample) : Bool := decide (x.code ≤ 1023) && decide (x.present ≤ 1)

/-- What a report has applied so far: the table and the counts of R99. -/
structure Tally where
  cells : List CellEntry
  taken : Nat
  ignored : Nat
  saturated : Nat

/-- One sample applied (R96): saturated, matched to a non-EMPTY entry, filtered and counted, its timing normalised
and stored (R97); a sample without an entry is ignored. -/
def Tally.apply (k : Nat) (ht : HT) (t : Tally) (x : Sample) : Tally :=
  let smp := saturate x.level
  let sat := t.saturated + (if smp = x.level then 0 else 1)
  match t.cells.findIdx? (fun e => e.holds { code := x.code, channel := x.channel }) with
  | some n =>
    { cells := t.cells.modify n (fun e =>
        e.sampled k smp (if x.present = 1 then some (normalise ht x.timing) else none))
      taken := t.taken + 1, ignored := t.ignored, saturated := sat }
  | none => { t with ignored := t.ignored + 1, saturated := sat }

/-- The samples of a report applied in list order (R96). -/
def applySamples (k : Nat) (ht : HT) (l : List Sample) (cells : List CellEntry) : Tally :=
  l.foldl (Tally.apply k ht) { cells := cells, taken := 0, ignored := 0, saturated := 0 }

/-- The state after a report: the levels, and one evaluation when CAMPED (R96, R99). -/
def measEffect (i : Sub) (l : List Sample) (s : State) : State :=
  let s1 := s.modWatch i (fun w => { w with cells := (applySamples w.config.k s.now l w.cells).cells })
  if (s.sub i).state = .camped then evaluateCells i s1 else s1

/-- MEAS_REPORT's checks and response (R95, R99). The best candidate's index and M share one presence octet (log 28),
and M is unsigned (log 31). -/
def runMeasReport (p : Port) (o : Nat × List Sample) (s : State) : Reply :=
  withSub p o.1 s (fun i =>
    if o.2.length < 1 ∨ 8 < o.2.length ∨ o.2.all sampleOk = false then refuse .badField
    else if (s.sub i).state = .detached ∨ (s.sub i).state = .absent then refuse .subState
    else
      let t := applySamples (s.watch i).config.k s.now o.2 (s.watch i).cells
      let evaluated : Bool := decide ((s.sub i).state = .camped)
      let best := if evaluated then (evaluateTable s.now (s.watch i).config.h t.cells).best else none
      ok (measEffect i o.2 s) (lit (oct8 t.taken ++ oct8 t.ignored ++ oct8 t.saturated ++ octFlag evaluated)
        ++ optional 3 (best.map (fun b => oct8 b.index ++ oct16 b.margin.toNat))))

/-- MEAS_REPORT (R95 to R99). -/
def execMeasReport (p : Port) (tag : Octet) (body : List Octet) (s : State) : Host.Outcome State Fault Refusal :=
  serve 16 .stackOnly p tag body bodyMeas (runMeasReport p) s

/-! ### CELL_TABLE_READ (R105) -/

/-- A margin in four octets, two's complement: its range does not fit two (R100, log 6). -/
def octInt32 (z : Int) : List Octet := oct32 (BitVec.ofInt 32 z).toNat

/-- One entry as CELL_TABLE_READ lists it; an EMPTY entry has its index and state alone (R105, log 6). F is
given negated (log 31). The read-time margin closes its entry and does not follow the list (log 6), a presence octet
before its four octets (log 28). -/
def entryItem (h : Nat) (fs : Option Int) (k : Nat) (e : CellEntry) : Out :=
  lit (oct8 k ++ oct8 e.state.code) ++
    (match e.cell with
    | some c => lit (oct16 c.code ++ oct16 c.channel ++ octInt8 e.offset)
        ++ optional 2 (e.level.map octLevel) ++ lit (oct16 e.count) ++ optHt e.timing ++ optHt e.bar
        ++ optional 4 ((marginOf h fs e).map octInt32)
    | none => [])

/-- The evaluation record as CELL_TABLE_READ gives it: the HT, then the best candidate or absent (R90, R105).
The parts of the best candidate share one presence octet (log 28); M and the levels are unsigned (log 31). -/
def evalItem (r : Option EvalRecord) : Out :=
  match r with
  | some x => lit (oct8 1 ++ octHt x.ht) ++ optional 11 (x.best.map (fun b =>
      oct8 b.index ++ oct16 b.code ++ oct16 b.channel ++ oct16 b.margin.toNat ++ octLevel b.fs ++ octLevel b.fc))
  | none => optional 16 none

/-- CELL_TABLE_READ (R105). The response has the items R105 lists, and after them in DETACHED and ABSENT the trigger and
the switch record, which R125 has it show there (log 32). -/
def runCellTableRead (p : Port) (x : Nat × Nat) (s : State) : Reply :=
  withSub p x.1 s (fun i =>
    if 15 < x.2 then refuse .badField
    else
      let w := s.watch i
      let items := ((w.cells.zipIdx.drop x.2).take 8)
      ok s (opt1 (s.sub i).serving
        ++ lit (oct8 w.config.k ++ oct8 w.config.h ++ oct8 (w.cells.countP (fun e => decide (e.state ≠ .empty))))
        ++ evalItem w.evalRec ++ lit (oct8 items.length)
        ++ (items.map (fun y => entryItem w.config.h (servingLevel w.cells) y.2 y.1)).flatten ++ shownHandover s i))

/-- CELL_TABLE_READ (R105). -/
def execCellTableRead (p : Port) (tag : Octet) (body : List Octet) (s : State) :
    Host.Outcome State Fault Refusal :=
  serve 17 .stackOnly p tag body body2 (runCellTableRead p) s

end Sys2Proof.Machine
end

