-- ==== Sys2Proof/Machine/Events.lean ====
section
/-! DEFINITION. The commands that are no request: pins, clocks and the expiries the part takes on its own. -/
namespace Sys2Proof.Machine

/-- POWER_ON_RESET: the reset pin is released (R208). The commands waiting and the model's count of responses stay. -/
def execPowerOnReset (s : State) : Host.Outcome State Fault Refusal := .next (State.powerOn s.pending s.freeCount)

/-- RESET_PIN_ASSERTED (R208): requests are no longer taken, the attention lines and the two select lines are
deasserted or none, and REF_EN is on. R208 names neither TRX_PWR nor the sleep state while the pin is asserted: both stay
as they stood (log 10). -/
def execResetPinAsserted (s : State) : Host.Outcome State Fault Refusal :=
  commit { s with
    inReset := true
    ports := ⟨{ s.ports.spt0 with response := none }, { s.ports.spt1 with response := none },
      { s.ports.apt with response := none }⟩
    pins := { s.pins with trxSel := none, refEn := true }
    cct := { s.cct with audioSel := none } }

/-- TRANSACTION_ABORTED (R196): no response, and no change of any block. -/
def execTransactionAborted (p : Port) (s : State) : Host.Outcome State Fault Refusal := commit (noResponse p s)

/-- REF_READY (R192). -/
def execRefReady (s : State) : Host.Outcome State Fault Refusal := occur refReadyDue takeRefReady s

/-- HT_TICK (R1): with the source FAST and the reference reported ready. -/
def execHtTick (s : State) : Host.Outcome State Fault Refusal := occur countingFast tick s

/-- SLOW_CYCLE (R190, R182). -/
def execSlowCycle (fast : Nat) (s : State) : Host.Outcome State Fault Refusal :=
  occur (fun _ => true) (slowCycle fast) s

/-- ANCHOR_ADVANCE (R8). -/
def execAnchorAdvance (i : Sub) (s : State) : Host.Outcome State Fault Refusal :=
  occur (anchorAdvanceDue i) clockEvent s

/-- OCCASION_START (R65). -/
def execOccasionStart (s : State) : Host.Outcome State Fault Refusal := occur startDue takeStart s

/-- OCCASION_END (R74). -/
def execOccasionEnd (s : State) : Host.Outcome State Fault Refusal := occur endDue takeEnd s

/-- GRACE_EXPIRY (R79). -/
def execGraceExpiry (slot : Nat) (s : State) : Host.Outcome State Fault Refusal :=
  occur (graceDue slot) (takeGrace slot) s

/-- WINDOW_OPENING (R82). -/
def execWindowOpening (s : State) : Host.Outcome State Fault Refusal := occur windowDue openWindow s

/-- TTT_EXPIRY (R113). -/
def execTttExpiry (i : Sub) (s : State) : Host.Outcome State Fault Refusal := occur (tttDue i) (takeTtt i) s

/-- REPEAT_EXPIRY (R113). -/
def execRepeatExpiry (i : Sub) (s : State) : Host.Outcome State Fault Refusal := occur (repeatDue i) (takeRepeat i) s

/-- BAR_EXPIRY (R104). -/
def execBarExpiry (i : Sub) (entry : Nat) (s : State) : Host.Outcome State Fault Refusal :=
  occur (barDue i entry) (takeBar i entry) s

/-- SETUP_EXPIRY (R139). -/
def execSetupExpiry (ctx : Nat) (s : State) : Host.Outcome State Fault Refusal :=
  occur (timerDue .dialing ctx) (takeSetup ctx) s

/-- RELEASE_EXPIRY (R140). -/
def execReleaseExpiry (ctx : Nat) (s : State) : Host.Outcome State Fault Refusal :=
  occur (timerDue .releasing ctx) (takeRelease ctx) s

/-- REASSEMBLY_TIMEOUT (R155). -/
def execReassemblyTimeout (entry : Nat) (s : State) : Host.Outcome State Fault Refusal :=
  occur (reassemblyDue entry) (takeReassembly entry) s

/-- RECALIBRATION_EXPIRY (R184). -/
def execRecalibrationExpiry (s : State) : Host.Outcome State Fault Refusal := occur recalDue takeRecal s

/-- CALIBRATION_COMPLETE (R183), due when the 2^n slow cycles have been counted: C is the fast cycles over them, and those
since the edge that closed the window are not in it (R182, log 12). -/
def execCalibrationComplete (_fast : Nat) (s : State) : Host.Outcome State Fault Refusal :=
  occur calCounted takeCalibration s

/-- WAKE_TIMER_EXPIRY (R190): the expiries of the tick are taken before the wake. -/
def execWakeTimerExpiry (s : State) : Host.Outcome State Fault Refusal := occur wakeDue settle s

/-- DOZE_POWER_UP_EXPIRY (R180). -/
def execDozePowerUpExpiry (s : State) : Host.Outcome State Fault Refusal := occur dozeDue takeDoze s

end Sys2Proof.Machine
end

