-- ==== Sys2Proof/Machine/Handover.lean ====
section
/-! DEFINITION. The handover requests: CELL_CONFIG, SWITCH_BEGIN, SWITCH_END and CANDIDATE_DECLINE. -/
namespace Sys2Proof.Machine

/-! ### CELL_CONFIG (R109 to R111) -/

/-- A mode code: 0 is HOLD, any higher code RESTART (R109). -/
def modeOf (n : Nat) : TriggerMode := if n = 0 then .hold else .restart

/-- The given settings, clamped and in ticks (R108, R109). -/
def ConfigOps.given (o : ConfigOps) : StagedConfig :=
  { k := o.k.get?.map (clamp 0 6)
    h := o.h.get?.map (clamp 0 30)
    ttt := o.ttt.get?.map (fun n => clamp 0 5120 n * 32)
    mode := o.mode.get?.map modeOf
    repeatTicks := o.rep.get?.map (fun n => clamp 1 60 n * 32000)
    barTicks := o.bar.get?.map (fun n => clamp 1 300 n * 32000) }

/-- The six settings in force, in the units of R108. -/
def configBody (c : TrigConfig) : List Octet :=
  oct8 c.k ++ oct8 c.h ++ oct16 (c.ttt / 32) ++ oct8 c.mode.code ++ oct16 (c.repeatTicks / 32000)
    ++ oct16 (c.barTicks / 32000)

/-- The staged configuration, each absent setting marked absent by a presence octet of its own (R109,
log 28). -/
def stagedBody (c : StagedConfig) : Out :=
  opt1 c.k ++ opt1 c.h ++ opt2 (c.ttt.map (fun n => n / 32)) ++ opt1 (c.mode.map TriggerMode.code)
    ++ opt2 (c.repeatTicks.map (fun n => n / 32000)) ++ opt2 (c.barTicks.map (fun n => n / 32000))

/-- The effect of CELL_CONFIG: staged in SWITCHING (R111), in force at once otherwise (R110). -/
def configEffect (i : Sub) (g : StagedConfig) (s : State) : State :=
  if (s.sub i).state = .switching then s.modWatch i (fun w => { w with staged := w.staged.over g })
  else applyConfig i g s

/-- CELL_CONFIG's checks and response (R109); in DETACHED and ABSENT the switch record follows the trigger state (R125,
log 32). -/
def runCellConfig (p : Port) (o : ConfigOps) (s : State) : Reply :=
  withSub p o.sub s (fun i =>
    if presenceOk [o.k, o.h, o.ttt, o.mode, o.rep, o.bar] then
      let s1 := configEffect i o.given s
      let staged : Bool := decide ((s.sub i).state = .switching) && decide (o.given ≠ StagedConfig.absent)
      ok s1 (lit (octFlag staged ++ configBody (s1.watch i).config) ++ stagedBody (s1.watch i).staged
        ++ lit (oct8 (s1.watch i).trigger.code) ++ shownSwitch s1 i)
    else refuse .badField)

/-- CELL_CONFIG (R109 to R111). -/
def execCellConfig (p : Port) (tag : Octet) (body : List Octet) (s : State) : Host.Outcome State Fault Refusal :=
  serve 18 .stackOnly p tag body bodyCellConfig (runCellConfig p) s

/-! ### SWITCH_BEGIN (R117, R118) -/

/-- The SWITCH record of R48. -/
def switchOccasion (i : Sub) (o : BeginOps) (start anchor : HT) : Occasion :=
  { sub := i, kind := .switch, frame := o.frame, slot := o.slot, length := o.length, start := start, period := 0,
    stagedPeriod := none, remaining := 1, callLink := none, sendLink := none, state := .waiting, endHt := none,
    grace := none, placement := anchor }

/-- Steps 2 to 4 of a taken SWITCH_BEGIN (R118). -/
def openSwitch (i : Sub) (target : Nat) (c : Cell) (handle : Nat) (s : State) : State :=
  let s1 := s.modWatch i (fun w =>
    { w with
      switchRec := some { target := target, code := c.code, channel := c.channel, handle := handle }
      lateClose := false })
  sendSubState i .switchBegin (setSubState i .switching (idleTrigger i s1))

/-- The creation of the SWITCH record and the rest of SWITCH_BEGIN (R48, R117 checks 7 and 8, R118). -/
def beginSwitch (i : Sub) (o : BeginOps) (c : Cell) (anchor : HT) (s : State) : Reply :=
  let start := convert s.now anchor o.frame o.slot
  if 48 ≤ recordCount s then refuse .calendarFull
  else if 32 ≤ subRecordCount s i then refuse .quota
  else match makeRecord (switchOccasion i o start anchor) s with
    | some (slot, s1) => ok (openSwitch i o.target c (handleAt s1 slot) s1)
        (lit (oct16 (handleAt s1 slot) ++ octHt start ++ oct8 o.target ++ oct16 c.code ++ oct16 c.channel))
    | none => refuse .calendarFull

/-- SWITCH_BEGIN's checks in the order of R117. A CAMPED subscription always has an anchor (R19); without one the
model refuses NO_TIMING. -/
def runSwitchBegin (p : Port) (o : BeginOps) (s : State) : Reply :=
  withSub p o.sub s (fun i =>
    if 15 < o.target ∨ 1023 < o.frame ∨ 19 < o.slot ∨ o.length < 1 ∨ 64 < o.length then refuse .badField
    else if (s.sub i).state ≠ .camped then refuse .subState
    else match entryAt s i o.target with
      | some e =>
        if e.state ≠ .tracked then refuse .badField
        else if e.bar.isSome then refuse .targetBarred
        else match e.cell, s.anchor i with
          | some c, some a => beginSwitch i o c a s
          | _, _ => refuse .noTiming
      | none => refuse .badField)

/-- SWITCH_BEGIN (R117, R118). -/
def execSwitchBegin (p : Port) (tag : Octet) (body : List Octet) (s : State) : Host.Outcome State Fault Refusal :=
  serve 19 .stackOnly p tag body bodyBegin (runSwitchBegin p) s

/-! ### SWITCH_END (R119 to R121) -/

/-- Step 1 of a close by SWITCH_END (R120): the SWITCH occasion is resolved DONE, a grant it holds released first. -/
def closeOccasion (sw : SwitchRec) (s : State) : State :=
  noteEval (resolve .done (sw.handle % 64) (if holdsGrant s (sw.handle % 64) then releaseGrant s else s))

/-- The anchor SWITCH_END's success takes: the operand, or the target's stored timing (R121, R124). -/
def endAnchor (i : Sub) (o : EndOps) (sw : SwitchRec) (s : State) : Option HT :=
  if o.present = 1 then some o.anchor
  else match entryAt s i sw.target with
    | some e => e.timing
    | none => none

/-- The two changes of a SUCCESS before the close (R121): the serving change and the anchor with its re-timing. -/
def moveServing (i : Sub) (sw : SwitchRec) (a : HT) (s : State) : State :=
  setAnchorRetimed i a (servingChange i sw.target s)

/-- SWITCH_END with SUCCESS (R120, R121). -/
def endSuccess (i : Sub) (sw : SwitchRec) (a : HT) (s : State) : Reply :=
  let s1 := moveServing i sw a s
  let s2 := completeClose i false (closeOccasion sw s1)
  ok s2 (lit (oct8 sw.target ++ octHt (normalise s.now a) ++ frameTick (normalise s.now a) s.now
    ++ oct8 (subRecordCount s i - subRecordCount s1 i) ++ oct8 (s2.sub i).state.code))

/-- SWITCH_END with FAILURE (R120, R121). -/
def endFailure (i : Sub) (sw : SwitchRec) (s : State) : Reply :=
  let s1 := setBar i sw.target s
  let s2 := completeClose i false (closeOccasion sw s1)
  ok s2 (lit (octHt (addTicks s.now (s.watch i).config.barTicks) ++ oct8 (s2.sub i).state.code))

/-- SWITCH_END's checks in the order of R119. -/
def runSwitchEnd (p : Port) (o : EndOps) (s : State) : Reply :=
  withSub p o.sub s (fun i =>
    if 1 < o.result ∨ 1 < o.present then refuse .badField
    else if (s.sub i).state ≠ .switching then
      (if (s.watch i).lateClose then refuse .late else refuse .subState)
    else match (s.watch i).switchRec with
      | some sw =>
        if o.result = 0 then
          match endAnchor i o sw s with
          | some a => endSuccess i sw a s
          | none => refuse .noTiming
        else endFailure i sw s
      | none => refuse .subState)

/-- SWITCH_END (R119 to R121). -/
def execSwitchEnd (p : Port) (tag : Octet) (body : List Octet) (s : State) : Host.Outcome State Fault Refusal :=
  serve 20 .stackOnly p tag body bodyEnd (runSwitchEnd p) s

/-! ### CANDIDATE_DECLINE (R115) -/

/-- CANDIDATE_DECLINE's effect: in REPORTED the repeat expiry starts again; nothing otherwise (R115). -/
def declineEffect (i : Sub) (s : State) : State :=
  match (s.watch i).trigger with
  | .reported c _ => setTrigger i (.reported c (addTicks s.now (s.watch i).config.repeatTicks)) s
  | _ => s

/-- The repeat expiry of a trigger, present in REPORTED (R112). -/
def Trigger.repeatAt? : Trigger → Option HT
  | .reported _ r => some r
  | _ => none

/-- CANDIDATE_DECLINE (R115). The repeat expiry is an optional HT: outside REPORTED presence octet 0 and four open
octets stand for it (log 28). -/
def runCandidateDecline (p : Port) (sub : Nat) (s : State) : Reply :=
  withSub p sub s (fun i =>
    ok (declineEffect i s) (lit (oct8 (s.watch i).trigger.code)
      ++ optHt ((declineEffect i s).watch i).trigger.repeatAt?))

/-- CANDIDATE_DECLINE (R115). -/
def execCandidateDecline (p : Port) (tag : Octet) (body : List Octet) (s : State) :
    Host.Outcome State Fault Refusal :=
  serve 21 .stackOnly p tag body body1 (runCandidateDecline p) s

end Sys2Proof.Machine
end

