-- ==== Sys2Proof/Machine/SleepRequests.lean ====
section
/-! DEFINITION. The sleep requests: SLEEP_VOTE, SLEEP_CONFIG and CALIBRATE. -/
namespace Sys2Proof.Machine

/-- A vote by its code; an unknown code names none (R181). -/
def voteOf (n : Nat) : Option Vote :=
  match n with
  | 0 => some .stayAwake
  | 1 => some .dozeOk
  | 2 => some .deepOk
  | _ => none

/-- A port's vote is set, and the evaluation of a vote change is owed (R181). -/
def setVote (p : Port) (v : Vote) (s : State) : State :=
  noteVote { s with scu := { s.scu with votes := s.scu.votes.set p v } }

/-- SLEEP_VOTE's effect with its evaluation: an unknown code and an equal vote change nothing (R181). -/
def voteEffect (p : Port) (code : Nat) (s : State) : State :=
  match voteOf code with
  | some v => if s.scu.votes.get p = v then s else runEval (setVote p v s)
  | none => s

/-- SLEEP_VOTE (R181): the response shows the state after the evaluation. -/
def runSleepVote (p : Port) (code : Nat) (s : State) : Reply :=
  ok (voteEffect p code s)
    (lit (oct8 ((voteEffect p code s).scu.votes.get p).code ++ oct8 (voteEffect p code s).scu.sleep.code))

/-- SLEEP_VOTE (R181). -/
def execSleepVote (p : Port) (tag : Octet) (body : List Octet) (s : State) : Host.Outcome State Fault Refusal :=
  serve 44 .everyPort p tag body body1 (runSleepVote p) s

/-- A new recalibration interval (R194): with the due flag clear and a last calibration held, the expiry moves, and
one not after HT is taken at once. -/
def setInterval (ticks : Nat) (s : State) : State :=
  let s1 := { s with scu := { s.scu with interval := ticks } }
  match s.scu.due, s.scu.lastCal with
  | false, some l =>
    if passed (addTicks l ticks) s.now then { s1 with scu := { s1.scu with recalExpiry := none, due := true } }
    else { s1 with scu := { s1.scu with recalExpiry := some (addTicks l ticks) } }
  | _, _ => s1

/-- The settings of SLEEP_CONFIG, clamped (R194). -/
def sleepSettings (o : SleepOps) (s : State) : State :=
  let s1 := { s with scu := { s.scu with
    lead := (match o.lead.get? with
      | some n => clamp 1 64 n * 16
      | none => s.scu.lead)
    ppm := (match o.ppm.get? with
      | some n => clamp 0 500 n
      | none => s.scu.ppm)
    winExp := (match o.winExp.get? with
      | some n => clamp 10 15 n
      | none => s.scu.winExp) } }
  match o.interval.get? with
  | some n => setInterval (clamp 1 600 n * 32000) s1
  | none => s1

/-- A field of SLEEP_CONFIG is present (R194). -/
def SleepOps.anyPresent (o : SleepOps) : Bool := [o.lead, o.ppm, o.interval, o.winExp].any (fun x => x.get?.isSome)

/-- SLEEP_CONFIG's effect with its evaluation; with no field present it is a reading (R194). -/
def sleepConfigEffect (o : SleepOps) (s : State) : State :=
  if o.anyPresent then runEval (noteEval (sleepSettings o s)) else s

/-- The exponent of a calibration that is not IDLE (R194). -/
def calExponent (s : State) : Option Nat :=
  match s.scu.cal with
  | .idle => none
  | .pending => some s.scu.winExp
  | .running r => some r.n

/-- The wake plan as SLEEP_CONFIG gives it, with the wake timer's cycles (R194). One presence octet stands before h0,
Tn, D', Wp, N and the wake timer with its own, with 25 open octets when no plan is held (log 28); D', N and the wake
timer take four octets each (log 6). -/
def planBody (s : State) : Out :=
  match s.scu.plan with
  | some w => lit (oct8 1 ++ octHt w.h0 ++ octHt w.tn ++ oct32 w.d ++ octHt w.wp ++ oct32 w.n)
      ++ optional 4 (s.scu.wakeTimer.map oct32)
  | none => optional 25 none

/-- SLEEP_CONFIG's response (R194). The n of a calibration is an optional octet (log 28). -/
def sleepBody (s : State) : Out :=
  lit (oct16 (s.scu.lead / 16) ++ oct16 s.scu.ppm ++ oct16 (s.scu.interval / 32000) ++ oct8 s.scu.winExp
      ++ oct8 s.scu.sleep.code ++ oct8 s.scu.votes.spt0.code ++ oct8 s.scu.votes.spt1.code
      ++ oct8 s.scu.votes.apt.code ++ oct32 s.scu.ratio ++ octFlag s.scu.valid)
    ++ optHt s.scu.lastCal ++ optHt s.scu.recalExpiry ++ lit (octFlag s.scu.due ++ oct8 s.scu.cal.code)
    ++ opt1 (calExponent s) ++ planBody s

/-- SLEEP_CONFIG (R194). -/
def runSleepConfig (o : SleepOps) (s : State) : Reply :=
  if presenceOk [o.lead, o.ppm, o.interval, o.winExp] then
    ok (sleepConfigEffect o s) (sleepBody (sleepConfigEffect o s))
  else refuse .badField

/-- SLEEP_CONFIG (R194). -/
def execSleepConfig (p : Port) (tag : Octet) (body : List Octet) (s : State) : Host.Outcome State Fault Refusal :=
  serve 45 .aptOnly p tag body bodySleep runSleepConfig s

/-- CALIBRATE's effect when no calibration is pending or running (R185): RUNNING with the reference up in AWAKE or
DOZE, PENDING otherwise, and in DEEP the wake begins. -/
def calibrateEffect (s : State) : State :=
  let pended := { s with scu := { s.scu with cal := .pending } }
  match s.scu.sleep with
  | .deep => startWaking pended
  | .waking => pended
  | _ => if s.scu.refUp then startCalibration s else pended

/-- CALIBRATE (R185). -/
def runCalibrate (_ : Unit) (s : State) : Reply :=
  if s.scu.cal.isIdle then
    ok (calibrateEffect s) (lit (oct8 (calibrateEffect s).scu.cal.code ++ oct8 s.scu.winExp))
  else refuse .busyCal

/-- CALIBRATE (R185). -/
def execCalibrate (p : Port) (tag : Octet) (body : List Octet) (s : State) : Host.Outcome State Fault Refusal :=
  serve 46 .aptOnly p tag body bodyNone runCalibrate s

end Sys2Proof.Machine
end

