-- ==== Sys2Proof/Machine/PortRequests.lean ====
section
/-! DEFINITION. The port requests: FETCH_EVENTS, EVENT_CONFIG, CLEAR_REFUSAL, PORT_RESET, PART_RESET, and a request of
a kind the part does not have. -/
namespace Sys2Proof.Machine

/-- An optional subscription in an event entry: absent is 255 (R206). -/
def subField : Option Sub → List Octet
  | some i => oct8 (Sub.code i)
  | none => oct8 255

/-- An event entry in 19 octets (R206); detail octets not used are 0. -/
def entryOctets (e : Event) : List Octet :=
  oct8 e.kind.code ++ octFlag e.urgent ++ subField e.sub ++ oct16 (e.subject.getD 65535) ++ oct16 e.cause
    ++ octHt e.stamp ++ (e.detail ++ List.replicate 8 0).take 8

/-- FETCH_EVENTS's effect on its port unit: the oldest entries leave and the lost flag is cleared (R203). -/
def PortUnit.fetched (u : PortUnit) (max : Nat) : PortUnit := { u with queue := u.queue.drop max, lost := false }

/-- FETCH_EVENTS (R203). -/
def runFetchEvents (p : Port) (max : Nat) (s : State) : Reply :=
  if max < 1 ∨ 8 < max then refuse .badField
  else ok (s.modUnit p (fun u => u.fetched max))
    (lit (oct8 ((s.unit p).queue.take max).length ++ octFlag (s.unit p).lost
      ++ (((s.unit p).queue.take max).map entryOctets).flatten))

/-- FETCH_EVENTS (R203). -/
def execFetchEvents (p : Port) (tag : Octet) (body : List Octet) (s : State) : Host.Outcome State Fault Refusal :=
  serve 47 .everyPort p tag body body1 (runFetchEvents p) s

/-- An optional setting of one bit: a code above 1 is taken as 1 (R204). -/
def bitField (o : Opt) (old : Bool) : Bool :=
  match o.get? with
  | some n => decide (n ≠ 0)
  | none => old

/-- The settings after EVENT_CONFIG (R204). -/
def PortUnit.configured (u : PortUnit) (o : EventOps) : PortUnit :=
  { u with
    oneLine := bitField o.mode u.oneLine
    maskU := bitField o.maskU u.maskU
    maskR := bitField o.maskR u.maskR
    quiet := bitField o.quiet u.quiet }

/-- EVENT_CONFIG's response (R204). -/
def eventBody (u : PortUnit) : List Octet :=
  octFlag u.oneLine ++ octFlag u.maskU ++ octFlag u.maskR ++ octFlag u.quiet ++ oct8 u.queue.length ++ octFlag u.lost

/-- EVENT_CONFIG (R204). -/
def runEventConfig (p : Port) (o : EventOps) (s : State) : Reply :=
  if presenceOk [o.mode, o.maskU, o.maskR, o.quiet] then
    ok (s.modUnit p (fun u => u.configured o)) (lit (eventBody ((s.unit p).configured o)))
  else refuse .badField

/-- EVENT_CONFIG (R204). -/
def execEventConfig (p : Port) (tag : Octet) (body : List Octet) (s : State) : Host.Outcome State Fault Refusal :=
  serve 48 .everyPort p tag body bodyEvent (runEventConfig p) s

/-- CLEAR_REFUSAL's response: the full flag and the record, all 0 when the latch is empty (R200). -/
def latchBody : Option Latch → List Octet
  | some l => oct8 1 ++ [l.kind, l.tag] ++ oct8 l.status ++ octHt l.ht
  | none => List.replicate 8 0

/-- CLEAR_REFUSAL (R200). -/
def runClearRefusal (p : Port) (_ : Unit) (s : State) : Reply :=
  ok (s.modUnit p (fun u => { u with latch := none })) (lit (latchBody (s.unit p).latch))

/-- CLEAR_REFUSAL (R200). -/
def execClearRefusal (p : Port) (tag : Octet) (body : List Octet) (s : State) : Host.Outcome State Fault Refusal :=
  serve 49 .everyPort p tag body bodyNone (runClearRefusal p) s

/-- A port unit after PORT_RESET, before its lines follow (R210). -/
def PortUnit.portReset (u : PortUnit) : PortUnit :=
  { u with queue := [], lost := false, latch := none, oneLine := false, maskU := false, maskR := false, quiet := false }

/-- PORT_RESET: the unit is reset and the vote becomes STAY_AWAKE, which is evaluated (R210, R181). -/
def runPortReset (p : Port) (_ : Unit) (s : State) : Reply :=
  ok (setVote p .stayAwake (s.modUnit p PortUnit.portReset)) []

/-- PORT_RESET (R210). -/
def execPortReset (p : Port) (tag : Octet) (body : List Octet) (s : State) : Host.Outcome State Fault Refusal :=
  serve 50 .everyPort p tag body bodyNone (runPortReset p) s

/-! ### PART_RESET (R209) -/

/-- A calendar slot after PART_RESET: generation and fresh flag kept (R63). -/
def CalSlot.partReset (sl : CalSlot) : CalSlot := { sl with late := false, kept := none, occ := none }

/-- The recalibration expiry and the due flag after PART_RESET (R195): last calibration + 30 s, taken at once when it
is not after HT. -/
def recalAfterReset (ht : HT) (c : Scu) : Option HT × Bool :=
  match c.due, c.lastCal with
  | false, some l => if passed (addTicks l 960000) ht then (none, true) else (some (addTicks l 960000), false)
  | d, _ => (none, d)

/-- The Sleep Control Unit after PART_RESET (R195). -/
def Scu.partReset (ht : HT) (c : Scu) : Scu :=
  { sleep := if c.sleep.notReady then .waking else .awake
    votes := ⟨.stayAwake, .stayAwake, .stayAwake⟩
    refUp := c.refUp
    ratio := c.ratio
    valid := c.valid
    lastCal := c.lastCal
    recalExpiry := (recalAfterReset ht c).1
    due := (recalAfterReset ht c).2
    cal := if !c.sleep.notReady && !c.refUp then .pending else .idle
    acc := c.acc
    plan := none
    wakeTimer := none
    dozeExpiry := none
    lead := 64
    ppm := 50
    interval := 960000
    winExp := 12 }

/-- Every block at its PART_RESET values (R17, R38, R63, R87, R107, R126, R146, R162, R177, R195, R209). -/
def partReset (s : State) : State :=
  { s with
    tlu := { s.tlu with anchor := ⟨none, none⟩, source := if s.scu.sleep.notReady then .slow else .fast }
    sbt := { subs := ⟨SubRecord.reset, SubRecord.reset⟩, missLimit := 4 }
    ocl := { slots := s.ocl.slots.map CalSlot.partReset }
    tgu := Tgu.reset (slotNumber s.now / 1024)
    cwu := ⟨Cwu.reset, Cwu.reset⟩
    cct := Cct.reset
    txs := Txs.reset s.txs.commits
    scu := s.scu.partReset s.now
    ports := ⟨PortUnit.afterReset 33 s.now s.ports.spt0.response, PortUnit.afterReset 33 s.now s.ports.spt1.response,
      PortUnit.afterReset 33 s.now s.ports.apt.response⟩
    pins := { trxSel := none, trxPwr := !s.scu.sleep.notReady, refEn := true }
    evalDue := false
    evalWake := false }

/-- PART_RESET (R209). -/
def runPartReset (_ : Unit) (s : State) : Reply := ok (partReset s) []

/-- PART_RESET (R209). -/
def execPartReset (p : Port) (tag : Octet) (body : List Octet) (s : State) : Host.Outcome State Fault Refusal :=
  serve 51 .aptOnly p tag body bodyNone runPartReset s

/-! ### A kind the part does not have (R197) -/

/-- A kind octet that names no kind: 0 or above 51 (R197). -/
def unknownKind (kind : Octet) : Bool := decide (kind.toNat = 0) || decide (51 < kind.toNat)

/-- UNSUPPORTED_REQUEST: refused before its body is looked at (R197). A kind octet of 1..51 is no such request, and
nothing happens (log 23). -/
def execUnsupportedRequest (p : Port) (kind tag : Octet) (_body : List Octet) (s : State) :
    Host.Outcome State Fault Refusal :=
  if !unknownKind kind then .next s
  else if s.inReset then commit (noResponse p s)
  else conclude kind p tag s (refuse .unsupported)

end Sys2Proof.Machine
end

