-- ==== Sys2Proof/Machine/Subscriptions.lean ====
section
/-! DEFINITION. The subscription requests: BIND, UNBIND, CAMP, DETACH, RESUME, PART_STATUS and POLICY_SET. -/
namespace Sys2Proof.Machine

/-- A stack port by its code: SPT0 0, SPT1 1 (log 8). -/
def stackPortOf (n : Nat) : Option StackPort :=
  match n with
  | 0 => some .spt0
  | 1 => some .spt1
  | _ => none

/-- The code of a bound port in a response: SPT0 0, SPT1 1, none 2, in the order of R18 (R205). -/
def boundCode : Option StackPort → Nat
  | some q => StackPort.code q
  | none => 2

/-- BIND (R22). -/
def runBind (o : Nat × Nat) (s : State) : Reply :=
  match subOf o.1, stackPortOf o.2 with
  | some i, some q =>
    if (s.sub i).state ≠ .detached then refuse .subState
    else ok (s.modSub i (fun r => { r with bound := some q })) (lit (oct8 (StackPort.code q)))
  | _, _ => refuse .badField

/-- BIND (R22). -/
def execBind (p : Port) (tag : Octet) (body : List Octet) (s : State) : Host.Outcome State Fault Refusal :=
  serve 3 .aptOnly p tag body body2 runBind s

/-- UNBIND (R23). -/
def runUnbind (sub : Nat) (s : State) : Reply :=
  match subOf sub with
  | some i =>
    if (s.sub i).state ≠ .detached then refuse .subState
    else ok (s.modSub i (fun r => { r with bound := none })) []
  | none => refuse .badField

/-- UNBIND (R23). -/
def execUnbind (p : Port) (tag : Octet) (body : List Octet) (s : State) : Host.Outcome State Fault Refusal :=
  serve 4 .aptOnly p tag body body1 runUnbind s

/-- The cause of a CAMP: RECAMP when the subscription was CAMPED (R25). -/
def campCause (st : SubState) : Cause := if st = .camped then .recamp else .camp

/-- The effect of a taken CAMP, in the order of R25; the late-close mark is cleared (R116). -/
def campEffect (i : Sub) (o : CampOps) (s : State) : State :=
  let s1 := setAnchorRetimed i o.anchor (setSubState i .camped s)
  let s2 := campServing i { code := o.code, channel := o.channel } s1
  let s3 := (s2.modSub i (fun r => { r with miss := 0 })).modWatch i (fun w => { w with lateClose := false })
  sendSubState i (campCause (s.sub i).state) (promoteIfWaiting i s3)

/-- CAMP's checks and response (R24, R25). -/
def runCamp (p : Port) (o : CampOps) (s : State) : Reply :=
  withSub p o.sub s (fun i =>
    if 1023 < o.code then refuse .badField
    else if (s.sub i).state = .switching then refuse .subState
    else
      let s1 := campEffect i o s
      ok s1 (lit (octHt (normalise s.now o.anchor) ++ oct8 ((s1.sub i).serving.getD 255)
        ++ frameTick (normalise s.now o.anchor) s.now)))

/-- CAMP (R24, R25). -/
def execCamp (p : Port) (tag : Octet) (body : List Octet) (s : State) : Host.Outcome State Fault Refusal :=
  serve 5 .stackOnly p tag body bodyCamp (runCamp p) s

/-- DETACH (R26, R27): the records removed and the contexts ended are counted before the teardown. -/
def runDetach (p : Port) (sub : Nat) (s : State) : Reply :=
  withSub p sub s (fun i =>
    if (s.sub i).state = .detached then ok s (lit [0, 0])
    else ok (teardown i s) (lit (oct8 (subRecordCount s i) ++ oct8 (ctxCount s i))))

/-- DETACH (R26, R27). -/
def execDetach (p : Port) (tag : Octet) (body : List Octet) (s : State) : Host.Outcome State Fault Refusal :=
  serve 6 .stackOnly p tag body body1 (runDetach p) s

/-- The effect of a taken RESUME (R32); the late-close mark is cleared (R116). -/
def resumeEffect (i : Sub) (s : State) : State :=
  let s1 := (setSubState i .camped s).modSub i (fun r => { r with miss := 0 })
  let s2 := s1.modWatch i (fun w => { w with lateClose := false })
  sendSubState i .resume (promoteIfWaiting i s2)

/-- RESUME's checks and response (R32); the binding is not checked from the APT. -/
def runResume (p : Port) (sub : Nat) (s : State) : Reply :=
  match subOf sub with
  | some i =>
    if p ≠ .apt ∧ s.boundTo i p = false then refuse .notBound
    else if (s.sub i).state ≠ .absent then refuse .subState
    else ok (resumeEffect i s) (lit (oct8 SubState.camped.code))
  | none => refuse .badField

/-- RESUME (R32). -/
def execResume (p : Port) (tag : Octet) (body : List Octet) (s : State) : Host.Outcome State Fault Refusal :=
  serve 7 .everyPort p tag body body1 (runResume p) s

/-- The state of a subscription's ACTIVE slot: SENDING, KEPT, or 0 when empty (R37). -/
def activeCode (s : State) (i : Sub) : Nat :=
  match s.txs.active.get i with
  | some id => match s.send id with
    | some r => r.state.code
    | none => 0
  | none => 0

/-- The items of PART_STATUS for one subscription (R37). One presence octet stands before the serving cell's code and
channel together (log 28). -/
def statusOf (s : State) (i : Sub) : Out :=
  let r := s.sub i
  lit (oct8 (boundCode r.bound) ++ oct8 r.state.code ++ oct8 r.prior.code ++ oct8 r.miss
      ++ octFlag (s.anchor i).isSome)
    ++ optional 4 ((servingCell s i).map (fun c => oct16 c.code ++ oct16 c.channel))
    ++ lit (oct8 (subRecordCount s i) ++ oct8 (ctxCount s i) ++ octFlag (inCall s i) ++ oct8 (activeCode s i)
      ++ octFlag (s.txs.staged.get i).isSome ++ octFlag r.stagedWaiting)

/-- The reading of PART_STATUS (R37): every item of SUB0, then every item of SUB1 (log 29). -/
def runPartStatus (_ : Unit) (s : State) : Reply :=
  ok s (lit (octHt s.now ++ oct8 s.sbt.missLimit ++ oct8 s.scu.sleep.code) ++ statusOf s .sub0 ++ statusOf s .sub1)

/-- PART_STATUS (R37). -/
def execPartStatus (p : Port) (tag : Octet) (body : List Octet) (s : State) : Host.Outcome State Fault Refusal :=
  serve 8 .aptOnly p tag body bodyNone runPartStatus s

/-- W clamped: below 256 taken as 256, above 2048 as 2048, between two permitted values the lower (R84). -/
def clampW (n : Nat) : Nat := if 2048 ≤ n then 2048 else if 1024 ≤ n then 1024 else if 512 ≤ n then 512 else 256

/-- A tie preference field: 0 is SUB0 first, a code above 1 is taken as 1 (R84). -/
def tieField (o : Opt) (old : Sub) : Sub :=
  match o.get? with
  | some 0 => .sub0
  | some _ => .sub1
  | none => old

/-- The settings after POLICY_SET (R36, R84). -/
def policyEffect (o : PolicyOps) (s : State) : State :=
  { s with
    sbt := { s.sbt with missLimit := (match o.missLimit.get? with
      | some n => clamp 1 15 n
      | none => s.sbt.missLimit) }
    tgu := { s.tgu with
      tie := ⟨tieField o.tie0 s.tgu.tie.c0, tieField o.tie1 s.tgu.tie.c1, tieField o.tie2 s.tgu.tie.c2,
        tieField o.tie3 s.tgu.tie.c3⟩
      stagedW := (o.w.get?.map clampW).or s.tgu.stagedW
      stagedA := (o.a.get?.map (clamp 0 255)).or s.tgu.stagedA } }

/-- POLICY_SET's response (R36, R84). The used count, 0..255 by R64, takes one octet (log 6); staged W
and staged A have a presence octet each (log 28). -/
def policyBody (s : State) : Out :=
  lit (oct8 s.sbt.missLimit ++ oct8 (Sub.code s.tgu.tie.c0) ++ oct8 (Sub.code s.tgu.tie.c1) ++ oct8 (Sub.code s.tgu.tie.c2)
      ++ oct8 (Sub.code s.tgu.tie.c3) ++ oct16 s.tgu.w ++ oct16 s.tgu.a)
    ++ opt2 s.tgu.stagedW ++ opt2 s.tgu.stagedA ++ lit (oct32 s.tgu.window ++ oct8 s.tgu.used)

/-- POLICY_SET (R36, R84). -/
def runPolicySet (o : PolicyOps) (s : State) : Reply :=
  if presenceOk [o.missLimit, o.tie0, o.tie1, o.tie2, o.tie3, o.w, o.a] then
    ok (policyEffect o s) (policyBody (policyEffect o s))
  else refuse .badField

/-- POLICY_SET (R36, R84). -/
def execPolicySet (p : Port) (tag : Octet) (body : List Octet) (s : State) : Host.Outcome State Fault Refusal :=
  serve 9 .aptOnly p tag body bodyPolicy runPolicySet s

end Sys2Proof.Machine
end

