-- ==== Sys2Proof/Machine/TextIn.lean ====
section
/-! DEFINITION. The inbound text requests: TEXT_SEGMENT_IN, TEXT_LIST, TEXT_READ, TEXT_RELEASE and TEXT_CONFIG. -/
namespace Sys2Proof.Machine

/-! ### TEXT_SEGMENT_IN (R150 to R154) -/

/-- Outcome codes of a completed message: DELIVERED 0, WAITING 1, in the order of R151 (R205). -/
def outcomeBody (s : State) (entry : Nat) : List Octet :=
  if inboxFull s then oct8 1 ++ oct8 entry else oct8 0 ++ oct8 (freeInboxId s.txs.inbox)

/-- The message of one segment. -/
def newMessage (i : Sub) (o : SegmentOps) (buffer : Nat) : InMsg :=
  { sub := i, reference := o.reference, total := o.total, segs := [{ seq := o.sequence, buffer := buffer }],
    originator := absentIfEmpty o.originator }

/-- Take the lowest free buffer for a payload (R147). -/
def takeBuffer (b : Nat) (payload : List Octet) (s : State) : State :=
  s.modTxs (fun t => { t with pool := t.pool.set b (some payload) })

/-- A message whole in one segment becomes COMPLETE in an entry: the inbox is full (R151). -/
def waitWhole (i : Sub) (o : SegmentOps) (entry : Nat) (evicted : Option Nat) (s : State) : Reply :=
  match freeBuffer s.txs.pool with
  | some b => ok (setEntry entry (.complete (newMessage i o b) false [] s.now) (takeBuffer b o.payload s))
      (lit (oct8 1 ++ oct8 entry) ++ opt1 evicted)
  | none => refuse .storeFull

/-- A segment with total 1 (R151). The index evicted is an optional octet (log 28). -/
def segmentWhole (i : Sub) (o : SegmentOps) (s : State) : Reply :=
  match freeBuffer s.txs.pool with
  | none => refuse .storeFull
  | some b =>
    if inboxFull s = false then
      ok (deliver (newMessage i o b) false [] s.now (takeBuffer b o.payload s))
        (lit (oct8 0 ++ oct8 (freeInboxId s.txs.inbox)) ++ opt1 none)
    else match freeEntry s.txs.entries with
      | some e => waitWhole i o e none s
      | none => match oldestAssembling s.txs.entries with
        | some (e, m) => waitWhole i o e (some e) (discardEntry e m .evicted s)
        | none => refuse .storeFull

/-- The entry of a key after a segment is added (R152). -/
def extend (m : InMsg) (o : SegmentOps) (b : Nat) : InMsg :=
  { m with
    segs := insertSegment { seq := o.sequence, buffer := b } m.segs
    originator := m.originator.or (absentIfEmpty o.originator) }

/-- The octets the response to a segment of an entry begins with: the entry, the sequences present, the total
(R152, R153). -/
def entryBody (entry present total : Nat) : List Octet := oct8 entry ++ oct8 present ++ oct8 total

/-- A segment added to its entry, which completes when it holds every sequence (R152, R154). One presence octet stands
before the outcome and the message id or entry index together (log 28). -/
def addSegment (e : Nat) (m : InMsg) (o : SegmentOps) (b : Nat) (s : State) : Reply :=
  let m1 := extend m o b
  let s1 := takeBuffer b o.payload s
  if m1.segs.length = m1.total then
    ok (finishEntry e m1 false [] s1)
      (lit (entryBody e m1.segs.length m1.total) ++ optional 2 (some (outcomeBody s e)))
  else ok (setEntry e (.assembling m1 s.now (addTicks s.now s.txs.timeout)) s1)
    (lit (entryBody e m1.segs.length m1.total) ++ optional 2 none)

/-- A segment whose key matches an ASSEMBLING entry (R152). A duplicate is answered with its outcome absent
(log 28). -/
def segmentMatched (e : Nat) (m : InMsg) (o : SegmentOps) (s : State) : Reply :=
  if o.total ≠ m.total then .refused .totalMismatch (lit (oct8 m.total))
  else if m.segs.any (fun g => decide (g.seq = o.sequence)) then
    .taken .duplicateSegment s (lit (entryBody e m.segs.length m.total) ++ optional 2 none)
  else match freeBuffer s.txs.pool with
    | some b => addSegment e m o b s
    | none => refuse .storeFull

/-- A new message begun in an entry (R153). The index evicted is an optional octet, and no optional outcome stands
beside it (log 28). -/
def beginEntry (i : Sub) (o : SegmentOps) (e : Nat) (evicted : Option Nat) (s : State) : Reply :=
  match freeBuffer s.txs.pool with
  | some b => ok (setEntry e (.assembling (newMessage i o b) s.now (addTicks s.now s.txs.timeout))
      (takeBuffer b o.payload s)) (lit (entryBody e 1 o.total) ++ opt1 evicted)
  | none => refuse .storeFull

/-- A segment that begins a new message (R153). -/
def segmentNew (i : Sub) (o : SegmentOps) (s : State) : Reply :=
  match freeBuffer s.txs.pool with
  | none => refuse .storeFull
  | some _ => match freeEntry s.txs.entries with
    | some e => beginEntry i o e none s
    | none => match oldestAssembling s.txs.entries with
      | some (e, m) => beginEntry i o e (some e) (discardEntry e m .evicted s)
      | none => refuse .storeFull

/-- A segment of a message of several (R152, R153). -/
def segmentPart (i : Sub) (o : SegmentOps) (s : State) : Reply :=
  match matchEntry i o.reference s.txs.entries with
  | some e => match s.txs.entries[e]? with
    | some (.assembling m _ _) => segmentMatched e m o s
    | _ => segmentNew i o s
  | none => segmentNew i o s

/-- TEXT_SEGMENT_IN's checks in the order of R150. -/
def runTextSegmentIn (p : Port) (o : SegmentOps) (s : State) : Reply :=
  withSub p o.sub s (fun i =>
    if o.total < 1 ∨ 16 < o.total ∨ o.sequence < 1 ∨ 16 < o.sequence ∨ o.payload.length < 1 ∨ 140 < o.payload.length
    then refuse .badField
    else if digitsOk 20 o.originator = false then refuse .badField
    else if o.total < o.sequence then refuse .segmentRange
    else if (s.sub i).state = .detached then refuse .subState
    else if o.total = 1 then segmentWhole i o s
    else segmentPart i o s)

/-- TEXT_SEGMENT_IN (R150 to R154). -/
def execTextSegmentIn (p : Port) (tag : Octet) (body : List Octet) (s : State) :
    Host.Outcome State Fault Refusal :=
  serve 31 .stackOnly p tag body bodySegment (runTextSegmentIn p) s

/-! ### Reading and releasing (R157 to R159) -/

/-- The payload octets a message holds (R157). -/
def octetsHeld (pool : List (Option (List Octet))) (m : InMsg) : Nat :=
  (m.segs.map (fun g => (payloadOf pool g.buffer).length)).sum

/-- One message as TEXT_LIST gives it (R157). -/
def inboxItem (s : State) (x : InboxMsg) : List Octet :=
  oct8 x.id ++ oct8 (Sub.code x.msg.sub) ++ oct8 x.msg.segs.length ++ oct8 x.msg.total ++ octFlag x.isPartial
    ++ oct16 (octetsHeld s.txs.pool x.msg) ++ octHt x.done

/-- An ASSEMBLING entry. -/
def Reasm.isAssembling : Reasm → Bool
  | .assembling _ _ _ => true
  | _ => false

/-- A COMPLETE entry. -/
def Reasm.isComplete : Reasm → Bool
  | .complete _ _ _ _ => true
  | _ => false

/-- TEXT_LIST (R157). -/
def runTextList (_ : Unit) (s : State) : Reply :=
  ok s (lit (oct8 s.txs.inbox.length ++ (s.txs.inbox.map (inboxItem s)).flatten
    ++ oct8 (s.txs.entries.countP Reasm.isAssembling) ++ oct8 (s.txs.entries.countP Reasm.isComplete)
    ++ oct8 (freeCountOf s.txs.pool) ++ oct8 (heldBySends s)))

/-- TEXT_LIST (R157). -/
def execTextList (p : Port) (tag : Octet) (body : List Octet) (s : State) : Host.Outcome State Fault Refusal :=
  serve 32 .aptOnly p tag body bodyNone runTextList s

/-- The inbox message with an id. -/
def inboxAt (s : State) (id : Nat) : Option InboxMsg := s.txs.inbox.find? (fun x => decide (x.id = id))

/-- TEXT_READ's response for one segment (R158). The reference takes one octet (log 34). -/
def readBody (s : State) (x : InboxMsg) (g : Segment) : List Octet :=
  oct8 x.id ++ oct8 (Sub.code x.msg.sub) ++ oct8 x.msg.reference ++ oct8 x.msg.total ++ octFlag x.isPartial
    ++ octHt x.done ++ octString x.msg.originator ++ oct8 x.missing.length ++ (x.missing.map oct8).flatten
    ++ oct8 g.seq ++ oct8 (payloadOf s.txs.pool g.buffer).length ++ payloadOf s.txs.pool g.buffer

/-- TEXT_READ (R158). -/
def runTextRead (o : Nat × Nat) (s : State) : Reply :=
  match inboxAt s o.1 with
  | some x => match x.msg.segs[o.2]? with
    | some g => ok s (lit (readBody s x g))
    | none => refuse .badField
  | none => refuse .badField

/-- TEXT_READ (R158). -/
def execTextRead (p : Port) (tag : Octet) (body : List Octet) (s : State) : Host.Outcome State Fault Refusal :=
  serve 33 .aptOnly p tag body body2 runTextRead s

/-- A message leaves the inbox with its buffers freed (R159, step 1). -/
def dropMessage (x : InboxMsg) (s : State) : State :=
  s.modTxs (fun t =>
    { t with
      pool := freeBuffers (x.msg.segs.map (fun g => g.buffer)) t.pool
      inbox := t.inbox.filter (fun y => decide (y.id ≠ x.id)) })

/-- TEXT_RELEASE's effect: the oldest COMPLETE entry moves into the place freed (R159). -/
def releaseEffect (x : InboxMsg) (s : State) : State :=
  let s1 := dropMessage x s
  match oldestComplete s1.txs.entries with
  | some (e, m, isPartial, missing, done) => deliver m isPartial missing done (setEntry e .free s1)
  | none => s1

/-- TEXT_RELEASE (R159). The id of the message that moved in is an optional octet (log 28). -/
def runTextRelease (id : Nat) (s : State) : Reply :=
  match inboxAt s id with
  | some x => ok (releaseEffect x s) (lit (oct8 x.msg.segs.length)
      ++ opt1 ((oldestComplete s.txs.entries).map (fun _ => freeInboxId (dropMessage x s).txs.inbox)))
  | none => refuse .badField

/-- TEXT_RELEASE (R159). -/
def execTextRelease (p : Port) (tag : Octet) (body : List Octet) (s : State) : Host.Outcome State Fault Refusal :=
  serve 34 .aptOnly p tag body body1 runTextRelease s

/-- The inbound settings after TEXT_CONFIG (R160). -/
def textConfigEffect (o : Opt × Opt) (s : State) : State :=
  s.modTxs (fun t =>
    { t with
      timeout := (match o.1.get? with
        | some n => clamp 5 600 n * 32000
        | none => t.timeout)
      partialOn := (match o.2.get? with
        | some n => decide (n ≠ 0)
        | none => t.partialOn) })

/-- TEXT_CONFIG (R160). -/
def runTextConfig (o : Opt × Opt) (s : State) : Reply :=
  if presenceOk [o.1, o.2] then
    let s1 := textConfigEffect o s
    ok s1 (lit (oct16 (s1.txs.timeout / 32000) ++ octFlag s1.txs.partialOn))
  else refuse .badField

/-- TEXT_CONFIG (R160). -/
def execTextConfig (p : Port) (tag : Octet) (body : List Octet) (s : State) : Host.Outcome State Fault Refusal :=
  serve 35 .aptOnly p tag body bodyTextConfig runTextConfig s

end Sys2Proof.Machine
end

