-- ==== Sys2Proof/Machine/TextOut.lean ====
section
/-! DEFINITION. The outbound text requests: TEXT_COMPOSE, TEXT_FILL, TEXT_COMMIT, TEXT_ABANDON, TEXT_SEND_STATUS,
TEXT_SEND_CLOSE, TEXT_TAKE and TEXT_SEGMENT_RESULT. -/
namespace Sys2Proof.Machine

/-! ### Composing and committing (R165 to R167) -/

/-- The lowest-numbered FREE send record (R165). -/
def freeSendId (s : State) : Option Nat := s.txs.sends.findIdx? (fun r => r.isNone)

/-- The record TEXT_COMPOSE makes over its reserved buffers (R165). -/
def composed (i : Sub) (o : ComposeOps) (buffers : List Nat) : SendRec :=
  { state := .composing, sub := i, dest := o.dest, persist := decide (o.persist = 1), serial := none,
    segs := buffers.map (fun b => { buffer := b, filled := false, outcome := .pending }), result := none,
    finishCause := none }

/-- TEXT_COMPOSE's checks in the order of R165. -/
def runTextCompose (o : ComposeOps) (s : State) : Reply :=
  match subOf o.sub with
  | some i =>
    if o.dest.length < 1 ∨ digitsOk 20 o.dest = false then refuse .badField
    else if o.count < 1 ∨ 16 < o.count ∨ 1 < o.persist then refuse .badField
    else if freeCountOf s.txs.pool < o.count ∨ 32 < heldBySends s + o.count then refuse .storeFull
    else match freeSendId s, takeBuffers (List.replicate o.count []) s.txs.pool with
      | some id, some (bs, pool) =>
        ok ((s.setSend id (some (composed i o bs))).modTxs (fun t => { t with pool := pool }))
          (lit (oct8 id ++ oct8 (freeCountOf pool)))
      | none, _ => refuse .sendQueueFull
      | _, none => refuse .storeFull
  | none => refuse .badField

/-- TEXT_COMPOSE (R165). -/
def execTextCompose (p : Port) (tag : Octet) (body : List Octet) (s : State) : Host.Outcome State Fault Refusal :=
  serve 36 .aptOnly p tag body bodyCompose runTextCompose s

/-- The number of segments still unfilled. -/
def unfilledCount (r : SendRec) : Nat := r.segs.countP (fun g => !g.filled)

/-- A payload is written into a segment's buffer (R166). -/
def fillEffect (id : Nat) (r : SendRec) (g : SendSeg) (q : Nat) (payload : List Octet) (s : State) : State :=
  (s.setSend id (some { r with segs := r.segs.set (q - 1) { g with filled := true } })).modTxs
    (fun t => { t with pool := t.pool.set g.buffer (some payload) })

/-- TEXT_FILL's checks in the order of R166. -/
def runTextFill (o : Nat × Nat × List Octet) (s : State) : Reply :=
  if 3 < o.1 ∨ o.2.1 < 1 ∨ 16 < o.2.1 ∨ o.2.2.length < 1 ∨ 140 < o.2.2.length then refuse .badField
  else match s.send o.1 with
    | some r =>
      if r.state ≠ .composing then refuse .sendState
      else match r.segs[o.2.1 - 1]? with
        | some g => ok (fillEffect o.1 r g o.2.1 o.2.2 s)
            (lit (oct8 (unfilledCount { r with segs := r.segs.set (o.2.1 - 1) { g with filled := true } })))
        | none => refuse .segmentRange
    | none => refuse .sendState

/-- TEXT_FILL (R166). -/
def execTextFill (p : Port) (tag : Octet) (body : List Octet) (s : State) : Host.Outcome State Fault Refusal :=
  serve 37 .aptOnly p tag body bodyFill runTextFill s

/-- The commit counter after a commit (R164). -/
def bumpCommits (s : State) : State := s.modTxs (fun t => { t with commits := (t.commits + 1) % 65536 })

/-- A commit with the ACTIVE slot empty: SENDING, with TEXT_OUTBOUND (R167). -/
def commitActive (id : Nat) (r : SendRec) (s : State) : State :=
  let r1 := { r with state := .sending, serial := some s.txs.commits }
  let s1 := (bumpCommits (s.setSend id (some r1))).modTxs (fun t => { t with active := t.active.set r.sub (some id) })
  postBound r.sub (outboundEvent s1 id r1) s1

/-- A commit behind a held ACTIVE slot: STAGED, with no event (R167). -/
def commitStaged (id : Nat) (r : SendRec) (s : State) : State :=
  (bumpCommits (s.setSend id (some { r with state := .staged, serial := some s.txs.commits }))).modTxs (fun t =>
    { t with staged := t.staged.set r.sub (some id) })

/-- A subscription state in which a commit is taken: CAMPED or SWITCHING (R167). -/
def SubState.mayCommit : SubState → Bool
  | .camped => true
  | .switching => true
  | _ => false

/-- TEXT_COMMIT's checks in the order of R167. -/
def runTextCommit (id : Nat) (s : State) : Reply :=
  if 3 < id then refuse .badField
  else match s.send id with
    | some r =>
      if r.state ≠ .composing then refuse .sendState
      else match r.segs.findIdx? (fun g => !g.filled) with
        | some k => .refused .unfilled (lit (oct8 (k + 1)))
        | none =>
          if (s.sub r.sub).state.mayCommit = false then refuse .subState
          else if (s.txs.staged.get r.sub).isSome then refuse .sendQueueFull
          else if (s.txs.active.get r.sub).isSome then
            ok (commitStaged id r s) (lit (oct16 s.txs.commits ++ oct8 SendState.staged.code))
          else ok (commitActive id r s) (lit (oct16 s.txs.commits ++ oct8 SendState.sending.code))
    | none => refuse .sendState

/-- TEXT_COMMIT (R167). -/
def execTextCommit (p : Port) (tag : Octet) (body : List Octet) (s : State) : Host.Outcome State Fault Refusal :=
  serve 38 .aptOnly p tag body body1 runTextCommit s

/-! ### Abandoning, reading and closing (R172 to R174) -/

/-- A STAGED record abandoned (R172): freed, out of the STAGED slot, the staged-send-waiting flag cleared. -/
def abandonStaged (id : Nat) (r : SendRec) (s : State) : State :=
  ((freeSend id r s).modTxs (fun t => { t with staged := t.staged.set r.sub none })).modSub r.sub
    (fun x => { x with stagedWaiting := false })

/-- The body of TEXT_ABANDON's response (R172). One presence octet stands before the SENT and FAILED counts together,
with two open octets for a send that was not SENDING (log 28). -/
def abandonBody (r : SendRec) (counts : Option (List Octet)) : Out :=
  lit (oct8 r.state.code ++ oct8 r.segs.length) ++ optional 2 counts

/-- TEXT_ABANDON (R172). -/
def runTextAbandon (id : Nat) (s : State) : Reply :=
  if 3 < id then refuse .badField
  else match s.send id with
    | some r =>
      match r.state with
      | .composing => ok (freeSend id r s) (abandonBody r none)
      | .staged => ok (abandonStaged id r s) (abandonBody r none)
      | .sending => ok (finishSend compareMiss id r .cancelled (some .userAbandon) s)
          (abandonBody r (some (oct8 (countSegs r SegOutcome.isSent) ++ oct8 (countSegs r SegOutcome.isFailed))))
      | .kept => refuse .sendState
    | none => refuse .sendState

/-- TEXT_ABANDON (R172). -/
def execTextAbandon (p : Port) (tag : Octet) (body : List Octet) (s : State) : Host.Outcome State Fault Refusal :=
  serve 39 .aptOnly p tag body body1 runTextAbandon s

/-- The slot a record holds: ACTIVE 0, STAGED 1, none 2, in the order of R174 (R205). -/
def slotCode : SendState → Nat
  | .sending => 0
  | .kept => 0
  | .staged => 1
  | .composing => 2

/-- The stack's cause of a FAILED segment (R163). -/
def SegOutcome.cause? : SegOutcome → Option Nat
  | .failed c => some c
  | _ => none

/-- One segment of TEXT_SEND_STATUS (R174). -/
def segItem (s : State) (g : SendSeg) : Out :=
  lit (octFlag g.filled ++ oct8 (payloadOf s.txs.pool g.buffer).length ++ oct8 g.outcome.code)
    ++ opt1 g.outcome.cause?

/-- TEXT_SEND_STATUS's response for a record that is not FREE (R174). -/
def statusBody (s : State) (r : SendRec) : Out :=
  lit (oct8 r.state.code ++ oct8 (Sub.code r.sub) ++ octString (some r.dest) ++ oct8 r.segs.length
      ++ octFlag r.persist ++ oct8 (slotCode r.state))
    ++ opt2 r.serial ++ lit (oct8 r.segs.length) ++ (r.segs.map (segItem s)).flatten
    ++ opt1 (r.result.map SendResult.code) ++ opt1 (r.finishCause.map Cause.code) ++ lit (oct8 (heldBySends s))

/-- TEXT_SEND_STATUS (R174). -/
def runTextSendStatus (id : Nat) (s : State) : Reply :=
  if 3 < id then refuse .badField
  else match s.send id with
    | some r => ok s (statusBody s r)
    | none => ok s (lit (oct8 0))

/-- TEXT_SEND_STATUS (R174). -/
def execTextSendStatus (p : Port) (tag : Octet) (body : List Octet) (s : State) :
    Host.Outcome State Fault Refusal :=
  serve 40 .aptOnly p tag body body1 runTextSendStatus s

/-- The effect of a taken TEXT_SEND_CLOSE (R173, R171). -/
def closeEffect (id : Nat) (r : SendRec) (s : State) : State :=
  activeEmptied r.sub (clearActive r.sub (freeSend id r s))

/-- The record a close promotes, when it does (R171, R173). -/
def promotedBy (s : State) (i : Sub) : Option Nat := if (s.sub i).state = .camped then s.txs.staged.get i else none

/-- TEXT_SEND_CLOSE (R173). The id of the record promoted is an optional octet (log 28). -/
def runTextSendClose (id : Nat) (s : State) : Reply :=
  if 3 < id then refuse .badField
  else match s.send id with
    | some r =>
      if r.state ≠ .kept then refuse .sendState
      else ok (closeEffect id r s) (lit (oct8 r.segs.length) ++ opt1 (promotedBy s r.sub))
    | none => refuse .sendState

/-- TEXT_SEND_CLOSE (R173). -/
def execTextSendClose (p : Port) (tag : Octet) (body : List Octet) (s : State) :
    Host.Outcome State Fault Refusal :=
  serve 41 .aptOnly p tag body body1 runTextSendClose s

/-! ### The stack's side (R168 to R170) -/

/-- The checks common to TEXT_TAKE and TEXT_SEGMENT_RESULT, orders 2 to 6 of R168. -/
def withSegment (p : Port) (send sequence : Nat) (serial : Opt) (s : State) (k : SendRec → SendSeg → Reply) : Reply :=
  match s.send send with
  | some r =>
    if s.boundTo r.sub p = false then refuse .notBound
    else if r.state ≠ .sending then refuse .sendState
    else if serial.get?.isSome ∧ serial.get? ≠ r.serial then refuse .sendState
    else match r.segs[sequence - 1]? with
      | some g => k r g
      | none => refuse .segmentRange
  | none => refuse .sendState

/-- A record with one segment's outcome replaced. -/
def withOutcome (r : SendRec) (q : Nat) (g : SendSeg) (out : SegOutcome) : SendRec :=
  { r with segs := r.segs.set (q - 1) { g with outcome := out } }

/-- TEXT_TAKE's response (R168). -/
def takeBody (s : State) (r : SendRec) (q : Nat) (g : SendSeg) : List Octet :=
  oct16 (r.serial.getD 65535) ++ octString (some r.dest) ++ oct8 r.segs.length ++ oct8 q
    ++ oct8 (payloadOf s.txs.pool g.buffer).length ++ payloadOf s.txs.pool g.buffer

/-- TEXT_TAKE's checks in the order of R168. -/
def runTextTake (p : Port) (o : Nat × Nat × Opt) (s : State) : Reply :=
  if 3 < o.1 ∨ o.2.1 < 1 ∨ 16 < o.2.1 ∨ o.2.2.ok = false then refuse .badField
  else withSegment p o.1 o.2.1 o.2.2 s (fun r g =>
    if g.outcome.isOpen then ok (s.setSend o.1 (some (withOutcome r o.2.1 g .taken))) (lit (takeBody s r o.2.1 g))
    else refuse .sendState)

/-- TEXT_TAKE (R168). -/
def execTextTake (p : Port) (tag : Octet) (body : List Octet) (s : State) : Host.Outcome State Fault Refusal :=
  serve 42 .stackOnly p tag body bodyTake (runTextTake p) s

/-- The record after a taken result: the segment's outcome, and with a FAIL and persist off every open segment
SKIPPED (R169). -/
def afterResult (r : SendRec) (q : Nat) (g : SendSeg) (outcome cause : Nat) : SendRec :=
  if outcome = 0 then withOutcome r q g .sent
  else if r.persist then withOutcome r q g (.failed cause)
  else skipOpen (withOutcome r q g (.failed cause))

/-- The result of a send that results alone have finished (R170). -/
def finishedResult (r : SendRec) : SendResult × Option Cause :=
  if countSegs r SegOutcome.isFailed = 0 then (.ok, none)
  else if r.persist = true ∧ countSegs r SegOutcome.isSent ≠ 0 then (.partialSent, some .segmentFailed)
  else (.failed, some .segmentFailed)

/-- The octets of TEXT_SEGMENT_RESULT's response before the finish (R169). -/
def resultBody (r : SendRec) (out : SegOutcome) : List Octet :=
  oct8 out.code ++ oct8 (countSegs r SegOutcome.isSent) ++ oct8 (countSegs r SegOutcome.isFailed)
    ++ oct8 (countSegs r SegOutcome.isSkipped) ++ oct8 (countSegs r SegOutcome.isOpen)

/-- A taken result: the send goes on while a segment is open, and otherwise finishes (R169, R170). The
result and the record state of a finish share one presence octet (log 28). -/
def takeResult (id q : Nat) (r : SendRec) (g : SendSeg) (outcome cause : Nat) (s : State) : Reply :=
  let r1 := afterResult r q g outcome cause
  let out : SegOutcome := if outcome = 0 then .sent else .failed cause
  if countSegs r1 SegOutcome.isOpen ≠ 0 then
    ok (s.setSend id (some r1)) (lit (resultBody r1 out) ++ optional 2 none)
  else
    let f := finishedResult r1
    ok (finishSend compareMiss id r1 f.1 f.2 s) (lit (resultBody r1 out)
      ++ optional 2 (some (oct8 f.1.code ++ oct8 (if f.1.frees then 0 else SendState.kept.code))))

/-- TEXT_SEGMENT_RESULT's checks (R169). -/
def runTextSegmentResult (p : Port) (o : ResultOps) (s : State) : Reply :=
  if 3 < o.send ∨ o.sequence < 1 ∨ 16 < o.sequence ∨ 1 < o.outcome ∨ o.serial.ok = false then refuse .badField
  else withSegment p o.send o.sequence o.serial s (fun r g =>
    if g.outcome = .taken then takeResult o.send o.sequence r g o.outcome o.cause s
    else refuse .sendState)

/-- TEXT_SEGMENT_RESULT (R169, R170). -/
def execTextSegmentResult (p : Port) (tag : Octet) (body : List Octet) (s : State) :
    Host.Outcome State Fault Refusal :=
  serve 43 .stackOnly p tag body bodyResult (runTextSegmentResult p) s

end Sys2Proof.Machine
end

