-- ==== Sys2Proof/Machine/Timeline.lean ====
section
/-! DEFINITION. The timeline's requests: TIME_READ and ANCHOR_ADJUST. -/
namespace Sys2Proof.Machine

/-- The snapshot of R16. -/
def runTimeRead (_ : Unit) (s : State) : Reply :=
  ok s (lit (octHt s.now ++ oct32 (slotNumber s.now) ++ oct8 s.scu.sleep.code)
    ++ timeField s .sub0 ++ timeField s .sub1)

/-- TIME_READ (R16). -/
def execTimeRead (p : Port) (tag : Octet) (body : List Octet) (s : State) : Host.Outcome State Fault Refusal :=
  serve 1 .everyPort p tag body bodyNone runTimeRead s

/-- ANCHOR_ADJUST's checks and effect (R12, R13). A CAMPED subscription always has an anchor (R12); without one the
model refuses NO_TIMING (log 24). -/
def runAnchorAdjust (p : Port) (o : Nat × Int) (s : State) : Reply :=
  withSub p o.1 s (fun i =>
    if (s.sub i).state ≠ .camped then refuse .subState
    else if o.2 < -160 ∨ 160 < o.2 then refuse .adjustRange
    else match s.anchor i with
      | some a => ok (setAnchorRetimed i (addShift a o.2) s)
          (lit (octHt (normalise s.now (addShift a o.2))
            ++ frameTick (normalise s.now (addShift a o.2)) s.now))
      | none => refuse .noTiming)

/-- ANCHOR_ADJUST (R12, R13). -/
def execAnchorAdjust (p : Port) (tag : Octet) (body : List Octet) (s : State) : Host.Outcome State Fault Refusal :=
  serve 2 .stackOnly p tag body bodyAdjust (runAnchorAdjust p) s

end Sys2Proof.Machine
end

