-- ==== Sys2Proof/Machine/Dispatch.lean ====
section
/-! DEFINITION. The meaning of every command: one arm per constructor. -/
namespace Sys2Proof.Machine

/-- The effect of a command on everything but the queue of commands. -/
def exec (i : Instr) (s : State) : Host.Outcome State Fault Refusal :=
  match i with
  | .powerOnReset => Sys2Proof.Machine.execPowerOnReset s
  | .transactionAborted p => Sys2Proof.Machine.execTransactionAborted p s
  | .refReady => Sys2Proof.Machine.execRefReady s
  | .htTick => Sys2Proof.Machine.execHtTick s
  | .slowCycle fast => Sys2Proof.Machine.execSlowCycle fast s
  | .anchorAdvance sub => Sys2Proof.Machine.execAnchorAdvance sub s
  | .occasionStart => Sys2Proof.Machine.execOccasionStart s
  | .occasionEnd => Sys2Proof.Machine.execOccasionEnd s
  | .graceExpiry slot => Sys2Proof.Machine.execGraceExpiry slot s
  | .windowOpening => Sys2Proof.Machine.execWindowOpening s
  | .tttExpiry sub => Sys2Proof.Machine.execTttExpiry sub s
  | .repeatExpiry sub => Sys2Proof.Machine.execRepeatExpiry sub s
  | .barExpiry sub entry => Sys2Proof.Machine.execBarExpiry sub entry s
  | .setupExpiry ctx => Sys2Proof.Machine.execSetupExpiry ctx s
  | .releaseExpiry ctx => Sys2Proof.Machine.execReleaseExpiry ctx s
  | .reassemblyTimeout entry => Sys2Proof.Machine.execReassemblyTimeout entry s
  | .recalibrationExpiry => Sys2Proof.Machine.execRecalibrationExpiry s
  | .calibrationComplete fast => Sys2Proof.Machine.execCalibrationComplete fast s
  | .wakeTimerExpiry => Sys2Proof.Machine.execWakeTimerExpiry s
  | .dozePowerUpExpiry => Sys2Proof.Machine.execDozePowerUpExpiry s
  | .timeRead p tag body => Sys2Proof.Machine.execTimeRead p tag body s
  | .anchorAdjust p tag body => Sys2Proof.Machine.execAnchorAdjust p tag body s
  | .bind p tag body => Sys2Proof.Machine.execBind p tag body s
  | .unbind p tag body => Sys2Proof.Machine.execUnbind p tag body s
  | .camp p tag body => Sys2Proof.Machine.execCamp p tag body s
  | .detach p tag body => Sys2Proof.Machine.execDetach p tag body s
  | .resume p tag body => Sys2Proof.Machine.execResume p tag body s
  | .partStatus p tag body => Sys2Proof.Machine.execPartStatus p tag body s
  | .policySet p tag body => Sys2Proof.Machine.execPolicySet p tag body s
  | .occSubmit p tag body => Sys2Proof.Machine.execOccSubmit p tag body s
  | .occCancel p tag body => Sys2Proof.Machine.execOccCancel p tag body s
  | .occPeriod p tag body => Sys2Proof.Machine.execOccPeriod p tag body s
  | .occList p tag body => Sys2Proof.Machine.execOccList p tag body s
  | .occDone p tag body => Sys2Proof.Machine.execOccDone p tag body s
  | .cellListSet p tag body => Sys2Proof.Machine.execCellListSet p tag body s
  | .measReport p tag body => Sys2Proof.Machine.execMeasReport p tag body s
  | .cellTableRead p tag body => Sys2Proof.Machine.execCellTableRead p tag body s
  | .cellConfig p tag body => Sys2Proof.Machine.execCellConfig p tag body s
  | .switchBegin p tag body => Sys2Proof.Machine.execSwitchBegin p tag body s
  | .switchEnd p tag body => Sys2Proof.Machine.execSwitchEnd p tag body s
  | .candidateDecline p tag body => Sys2Proof.Machine.execCandidateDecline p tag body s
  | .callDial p tag body => Sys2Proof.Machine.execCallDial p tag body s
  | .callAnswer p tag body => Sys2Proof.Machine.execCallAnswer p tag body s
  | .callHold p tag body => Sys2Proof.Machine.execCallHold p tag body s
  | .callResume p tag body => Sys2Proof.Machine.execCallResume p tag body s
  | .callHangup p tag body => Sys2Proof.Machine.execCallHangup p tag body s
  | .callIncoming p tag body => Sys2Proof.Machine.execCallIncoming p tag body s
  | .callProgress p tag body => Sys2Proof.Machine.execCallProgress p tag body s
  | .callList p tag body => Sys2Proof.Machine.execCallList p tag body s
  | .callConfig p tag body => Sys2Proof.Machine.execCallConfig p tag body s
  | .textSegmentIn p tag body => Sys2Proof.Machine.execTextSegmentIn p tag body s
  | .textList p tag body => Sys2Proof.Machine.execTextList p tag body s
  | .textRead p tag body => Sys2Proof.Machine.execTextRead p tag body s
  | .textRelease p tag body => Sys2Proof.Machine.execTextRelease p tag body s
  | .textConfig p tag body => Sys2Proof.Machine.execTextConfig p tag body s
  | .textCompose p tag body => Sys2Proof.Machine.execTextCompose p tag body s
  | .textFill p tag body => Sys2Proof.Machine.execTextFill p tag body s
  | .textCommit p tag body => Sys2Proof.Machine.execTextCommit p tag body s
  | .textAbandon p tag body => Sys2Proof.Machine.execTextAbandon p tag body s
  | .textSendStatus p tag body => Sys2Proof.Machine.execTextSendStatus p tag body s
  | .textSendClose p tag body => Sys2Proof.Machine.execTextSendClose p tag body s
  | .textTake p tag body => Sys2Proof.Machine.execTextTake p tag body s
  | .textSegmentResult p tag body => Sys2Proof.Machine.execTextSegmentResult p tag body s
  | .sleepVote p tag body => Sys2Proof.Machine.execSleepVote p tag body s
  | .sleepConfig p tag body => Sys2Proof.Machine.execSleepConfig p tag body s
  | .calibrate p tag body => Sys2Proof.Machine.execCalibrate p tag body s
  | .fetchEvents p tag body => Sys2Proof.Machine.execFetchEvents p tag body s
  | .eventConfig p tag body => Sys2Proof.Machine.execEventConfig p tag body s
  | .clearRefusal p tag body => Sys2Proof.Machine.execClearRefusal p tag body s
  | .portReset p tag body => Sys2Proof.Machine.execPortReset p tag body s
  | .partReset p tag body => Sys2Proof.Machine.execPartReset p tag body s
  | .resetPinAsserted => Sys2Proof.Machine.execResetPinAsserted s
  | .unsupportedRequest p kind tag body => Sys2Proof.Machine.execUnsupportedRequest p kind tag body s

end Sys2Proof.Machine
end

