-- ==== Sys2Proof/Machine/Output.lean ====
section
/-! DEFINITION. The octets a port drives on its output while a master clocks a transaction: the fill octet and the
response frame (R196, R208). -/
namespace Sys2Proof.Machine

/-- The fill octet (R196). -/
def fillOctet : Octet := 255

/-- The length of the write phase of a transaction whose master writes `w`: the three header octets and the declared
body, or all of `w` where it is released inside the header (R196). -/
def writePhase (w : List Octet) : Nat :=
  match w with
  | _ :: _ :: len :: _ => 3 + len.toNat
  | _ => w.length

/-- Octet `k` of a port's output after a write phase of `n` octets: fill throughout the write phase, then the octets of
the response, then fill; with no response fill throughout (R196, R208). -/
def PortUnit.drivenOctet (u : PortUnit) (n k : Nat) : Octet :=
  if k < n then fillOctet
  else match u.response with
    | some r => r.getD (k - n) fillOctet
    | none => fillOctet

/-- Octet `k` of the output of a transaction on port `p` whose master writes `w`: the command of the transaction
(R196) is carried out on `s`, and the port drives what it then holds. An aborted transaction, and one while the reset pin
is asserted, leave the port no response, so that the output is fill (R196, R208). -/
def transactionOctet (p : Port) (w : List Octet) (s : State) (k : Nat) : Octet :=
  match exec (decodeFrame p w) s with
  | .next t => (t.unit p).drivenOctet (writePhase w) k
  | _ => fillOctet

end Sys2Proof.Machine
end

