-- ==== Sys2Proof/Safety.lean ====
section
/-! DEFINITION. What counts as a sound state of the part, and the vocabulary of the statements about it: rest between
events, the answer to a request, the events, ABSENT entry and promotion, the attention rule, table sizes, the grant's
lines, links, send slots, cell tables and triggers, the sleep lines, ratio range. -/
namespace Sys2Proof.Machine

/-! ### Between events -/

/-- No evaluation of the sleep unit is owed: the state between two events (log 4). -/
def State.settled (s : State) : Prop := s.evalDue = false ∧ s.evalWake = false

/-- Out of reset and between events: a request put now is taken (R196, R208). -/
def State.ready (s : State) : Prop := s.inReset = false ∧ s.settled

/-- Nothing is due at the current HT: no window opening, end, grace, start, trigger, bar, call, reassembly,
recalibration, DOZE or calibration completion, and no wake (R4, R190). -/
def State.nothingDue (s : State) : Prop :=
  windowDue s = false ∧ endDue s = false ∧ (∀ i, graceDue i s = false) ∧ startDue s = false ∧
  (∀ i, tttDue i s = false ∧ repeatDue i s = false) ∧ (∀ i k, barDue i k s = false) ∧
  (∀ i, timerDue .releasing i s = false ∧ timerDue .dialing i s = false) ∧ (∀ i, reassemblyDue i s = false) ∧
  recalDue s = false ∧ dozeDue s = false ∧ calCounted s = false ∧ wakeDue s = false

/-! ### The answer to a request (R197, R200, R204) -/

/-- A state with the response driven and the attention lines following the queues: the end of a request. -/
def answered (p : Port) (tag : Octet) (st : Status) (body : Out) (s : State) : State :=
  driveAttention (respond p tag st body s)

/-- A refused request: the refusal reaches the latch of its port, and the response carries the status. -/
def refusedWith (p : Port) (kind tag : Octet) (st : Status) (s : State) : State :=
  answered p tag st [] (latchRefusal p kind tag st s)

/-- The kinds of R198 by their code: those the APT alone may send, and those the stack ports alone may send; the
others are permitted on every port. -/
def permittedOn (kind : Nat) (p : Port) : Bool :=
  if kind ∈ [3, 4, 8, 9, 22, 23, 24, 25, 26, 30, 32, 33, 34, 35, 36, 37, 38, 39, 40, 41, 45, 46, 51] then
    decide (p = .apt)
  else if kind ∈ [2, 5, 6, 10, 11, 12, 13, 14, 15, 16, 17, 18, 19, 20, 21, 27, 28, 31, 42, 43] then
    decide (p ≠ .apt)
  else true

/-- The length of the body of a kind whose operands all have fixed widths, by its code (R207): none for the kinds with a
list, a digit string or a payload, and for a code that names no kind. -/
def fixedWidth (kind : Nat) : Option Nat :=
  if kind ∈ [1, 8, 29, 32, 46, 49, 50, 51] then some 0
  else if kind ∈ [4, 6, 7, 21, 23, 24, 25, 26, 34, 38, 39, 40, 41, 44, 47] then some 1
  else if kind ∈ [3, 11, 13, 17, 33] then some 2
  else if kind ∈ [2, 14] then some 3
  else if kind = 12 then some 4
  else if kind ∈ [35, 42] then some 5
  else if kind ∈ [19, 28, 30] then some 6
  else if kind ∈ [20, 43] then some 7
  else if kind = 48 then some 8
  else if kind = 5 then some 9
  else if kind = 45 then some 11
  else if kind = 10 then some 15
  else if kind ∈ [9, 18] then some 16
  else none

/-- A body fits its kind (R197, R207): it has the fixed width; a list has as many items as its count octet says, of 5
octets (CELL_LIST_SET) or 11 (MEAS_REPORT); a digit string has as many symbols as its length octet says, with nothing
after it (CALL_DIAL, CALL_INCOMING), a payload (TEXT_SEGMENT_IN) or two octets (TEXT_COMPOSE); TEXT_FILL has its two
octets before the payload. -/
def bodyFits (kind : Nat) (body : List Octet) : Bool :=
  match fixedWidth kind with
  | some n => decide (body.length = n)
  | none =>
    match kind, body with
    | 15, _ :: c :: rest => decide (rest.length = 5 * c.toNat)
    | 16, _ :: c :: rest => decide (rest.length = 11 * c.toNat)
    | 22, _ :: n :: rest => decide (rest.length = n.toNat)
    | 27, _ :: _ :: _ :: n :: rest => decide (rest.length = n.toNat)
    | 31, _ :: _ :: _ :: _ :: n :: rest => decide (n.toNat ≤ rest.length)
    | 36, _ :: n :: rest => decide (rest.length = n.toNat + 2)
    | 37, _ :: _ :: _ => true
    | _, _ => false

/-! ### Frames -/

/-- The two states of one event agree on the command queue, HT, the sleep unit and its lines, the reset pin and the count
of responses: all that an operation of another block leaves alone. -/
def State.sameClock (s t : State) : Prop :=
  t.pending = s.pending ∧ t.tlu.ht = s.tlu.ht ∧ t.tlu.source = s.tlu.source ∧ t.tlu.divider = s.tlu.divider ∧
  t.scu = s.scu ∧ t.pins.refEn = s.pins.refEn ∧ t.pins.trxPwr = s.pins.trxPwr ∧ t.inReset = s.inReset ∧
  t.freeCount = s.freeCount

/-- The two states agree on one subscription: its record, its anchor and its cell watch state. -/
def State.sameSub (i : Sub) (s t : State) : Prop :=
  t.sub i = s.sub i ∧ t.anchor i = s.anchor i ∧ t.watch i = s.watch i

/-- Every calendar slot but one is the same in the two states. -/
def State.sameSlotsBut (n : Nat) (s t : State) : Prop := ∀ m, m ≠ n → t.ocl.slots[m]? = s.ocl.slots[m]?

/-- Every call context but one is the same in the two states. -/
def State.sameCtxsBut (n : Nat) (s t : State) : Prop := ∀ m, m ≠ n → t.ctx m = s.ctx m

/-- Every send record but one is the same in the two states. -/
def State.sameSendsBut (n : Nat) (s t : State) : Prop := ∀ m, m ≠ n → t.send m = s.send m

/-- No subscription is at its miss limit: no release of the grant can lead to ABSENT (R29, R85). -/
def State.belowMissLimit (s : State) : Prop := ∀ i, (s.sub i).miss < s.sbt.missLimit

/-! ### Resolutions and events (R51, R73, R130, R201) -/

/-- The re-arm of a record makes no re-timing: it is one-shot or at its last occurrence, or its subscription's anchor is
the one it was placed under (R51, R57). -/
def State.noShift (s : State) (o : Occasion) : Prop :=
  o.period = 0 ∨ o.remaining = 1 ∨ s.anchor o.sub = some o.placement

/-- The record `o` of slot `n` after its occurrence has resolved (R50, R51): a one-shot or last occurrence frees the
slot, and under an unchanged anchor a periodic record waits one period later; the slot's late mark is `late`. -/
def State.rearmed (n : Nat) (o : Occasion) (late : Bool) (s t : State) : Prop :=
  (o.period = 0 ∨ o.remaining = 1 → t.occ n = none ∧ lateAt t n = late) ∧
  (o.period ≠ 0 → o.remaining ≠ 1 → s.anchor o.sub = some o.placement → lateAt t n = late ∧
    ∃ x, t.occ n = some x ∧ x.state = .waiting ∧ x.start = addTicks o.start (o.stagedPeriod.getD o.period * 320))

/-- The OCC_LOST of the occurrence of slot `n`, with a cause code (R73, R205, R206). -/
def State.occLost (s : State) (n : Nat) (o : Occasion) (cause : Nat) : Event :=
  { kind := .occLost, urgent := false, sub := some o.sub, subject := some (handleAt s n), cause := cause,
    stamp := s.tlu.ht, detail := oct8 o.kind.code ++ octHt o.start }

/-- The OCC_LOST events of a list of slots of `s` with one cause code, each at its bound port, in the list's order. -/
def State.postLost (s : State) (cause : Nat) : List Nat → State → State
  | [], t => t
  | n :: l, t => s.postLost cause l (match s.occ n with
    | some o => postBound o.sub (s.occLost n o cause) t
    | none => t)

/-- The OCC_GRANTED of slot `n` at an effective class, with the allowance octet (R72, R206). -/
def State.occGranted (s : State) (n : Nat) (o : Occasion) (cls allowance : Nat) : Event :=
  { kind := .occGranted, urgent := true, sub := some o.sub, subject := some (handleAt s n), cause := 0,
    stamp := o.start,
    detail := octHt (addTicks o.start (o.length * 16)) ++ oct8 o.kind.code ++ oct8 cls ++ oct8 allowance }

/-- The CALL_STATE of context `n`, which held the state `old` and now is `c` (R130, R206): URGENT for an MT context that
enters ALERTING; the cause code and the stack's cause value are given. -/
def State.callState (s : State) (n : Nat) (old : CtxState) (c : CallCtx) (cause stack : Nat) : Event :=
  { kind := .callState, urgent := decide (c.state = .alerting ∧ c.direction = some .mt), sub := c.sub,
    subject := some n, cause := cause, stamp := s.tlu.ht,
    detail := oct8 c.state.code ++ oct8 old.code ++ oct8 (if c.direction = some .mt then 1 else 0) ++ octFlag c.audio
      ++ oct8 stack }

/-- The TEXT_OUTBOUND of a send record with its serial (R176, R206). -/
def State.textOutbound (s : State) (id : Nat) (r : SendRec) (serial : Nat) : Event :=
  { kind := .textOutbound, urgent := true, sub := some r.sub, subject := some id, cause := 0, stamp := s.tlu.ht,
    detail := oct16 serial ++ oct8 r.segs.length ++ octFlag r.persist }

/-- SUB_STATE of a subscription at the APT (R20, R206): its new and prior state, miss counter and cell code octets, with a
cause code; URGENT when the new state is ABSENT. -/
def State.subStateEvent (s : State) (i : Sub) (new prior : SubState) (miss cell cause : Nat) : Event :=
  { kind := .subState, urgent := decide (new = .absent), sub := some i, subject := none, cause := cause,
    stamp := s.tlu.ht, detail := oct8 new.code ++ oct8 prior.code ++ oct8 miss ++ oct16 cell }

/-- The OCC_ENDED of the records of a list of slots of `s`, with one cause code, in the list's order (R60, R61, R206). -/
def State.endedOf (s : State) (cause : Nat) (l : List Nat) : List Event :=
  l.filterMap (fun n => (s.occ n).map (fun o =>
    { kind := .occEnded, urgent := false, sub := some o.sub, subject := some (handleAt s n), cause := cause,
      stamp := s.tlu.ht, detail := oct8 o.kind.code ++ octHt o.start }))

/-- A context that has ended with a release cause: IDLE with no timer, off the audio path (R130, R143). -/
def CallCtx.ended (c : CallCtx) (r : ReleaseCause) : CallCtx :=
  { c with state := .idle, timer := none, cause := some r, audio := if c.state = .connected then false else c.audio }

/-- The contexts of a subscription that are not IDLE, with their ids, in id order. -/
def State.callsOf (s : State) (i : Sub) : List (CallCtx × Nat) := s.cct.ctxs.zipIdx.filter (fun x => x.1.isOf i)

/-- The CALL_STATE events of a forced release of a subscription's contexts, in id order (R143). -/
def State.callsEnded (s : State) (i : Sub) (cause : Cause) : List Event :=
  (s.callsOf i).map (fun x => s.callState x.2 x.1.state (x.1.ended { cause := cause, stack := 0 }) cause.code 0)

/-- A subscription's SENDING record with its id: the record of its ACTIVE slot when that is SENDING (R164). -/
def State.sendingOf (s : State) (i : Sub) : Option (Nat × SendRec) :=
  match s.txs.active.get i with
  | some id => (match s.send id with
    | some r => if r.state = .sending then some (id, r) else none
    | none => none)
  | none => none

/-- A SENDING record after its fatal stop (R175): KEPT with result FAILED, finish cause LINE_LOST and every open segment
SKIPPED. -/
def SendRec.stopped (r : SendRec) : SendRec :=
  { skipOpen r with state := .kept, result := some .failed, finishCause := some .lineLost }

/-- The TEXT_SEND_STOPPED of the fatal stop of a subscription's send, for the bound port (R175, R176). -/
def State.sendStopped (s : State) (i : Sub) : List Event :=
  match s.sendingOf i with
  | some (id, r) =>
    [{ kind := .textSendStopped, urgent := false, sub := some r.sub, subject := some id, cause := 22,
       stamp := s.tlu.ht, detail := oct16 (r.serial.getD 65535) }]
  | none => []

/-- The TEXT_SENT of the fatal stop of a subscription's send, for the APT: FAILED, LINE_LOST, the counts (R175, R176). -/
def State.sendLost (s : State) (i : Sub) : List Event :=
  match s.sendingOf i with
  | some (id, r) =>
    [{ kind := .textSent, urgent := false, sub := some r.sub, subject := some id, cause := 22, stamp := s.tlu.ht,
       detail := oct8 2 ++ oct16 (r.serial.getD 65535) ++ oct8 (countSegs r SegOutcome.isSent)
         ++ oct8 (countSegs r SegOutcome.isFailed) ++ oct8 (countSegs r.stopped SegOutcome.isSkipped) }]
  | none => []

/-- A port's queue and lost flag after a list of events has arrived in order (R201). -/
def PortUnit.got (l : List Event) (u v : PortUnit) : Prop :=
  v.queue = (l.foldl PortUnit.enqueue u).queue ∧ v.lost = (l.foldl PortUnit.enqueue u).lost

/-- What an entry to CAMPED has made of a STAGED send of the subscription (R34, R35): with the staged-send-waiting flag
clear nothing; with it set the record is SENDING in the ACTIVE slot and the flag clear. `l` is the TEXT_OUTBOUND it sends
to the bound port. -/
def State.promoted (i : Sub) (s t : State) (l : List Event) : Prop :=
  ((s.sub i).stagedWaiting = false → t.txs = s.txs ∧ (t.sub i).stagedWaiting = false ∧ l = []) ∧
  ∀ id r k, (s.sub i).stagedWaiting = true → s.txs.staged.get i = some id → s.send id = some r → r.sub = i →
    r.serial = some k →
    t.send id = some { r with state := .sending } ∧ s.sameSendsBut id t ∧
    t.txs = { s.txs with
      sends := t.txs.sends
      active := s.txs.active.set i (some id)
      staged := s.txs.staged.set i none } ∧
    (t.sub i).stagedWaiting = false ∧ l = [s.textOutbound id r k]

/-- ABSENT entry of a CAMPED subscription `i`, from `s` to `t`, in all but the record of slot `n` and the bound port's
queue (R30, R143, R175): the subscription is ABSENT with prior state CAMPED and the miss counter `miss`; its anchor, cells,
configuration and every item of the other subscription are kept, its trigger is IDLE and its evaluation record absent;
its contexts have ended with cause STACK_ABSENT and AUDIO_SEL is none if one of them had the audio path; its SENDING send
is stopped; a grant of its own has ended; its GRANTED and AWAITING_DONE records linked to nothing have re-armed with their
late marks kept, its linked records are gone and every other record stays; the APT has the CALL_STATE events, a TEXT_SENT
and SUB_STATE (URGENT, MISS_LIMIT). -/
def State.absentEntered (i : Sub) (n miss : Nat) (s t : State) : Prop :=
  t.sub i = { s.sub i with state := .absent, prior := .camped, miss := miss } ∧ s.sameSub i.other t ∧
  t.anchor i = s.anchor i ∧ t.watch i = { s.watch i with trigger := .idle, evalRec := none } ∧
  (∀ m c, s.ctx m = some c →
    t.ctx m = some (if c.isOf i then c.ended { cause := .stackAbsent, stack := 0 } else c)) ∧
  t.cct.audioSel = (if ∃ c ∈ s.cct.ctxs, c.sub = some i ∧ c.state = .connected ∧ c.audio = true then none
    else s.cct.audioSel) ∧
  t.cct.setupLimit = s.cct.setupLimit ∧ t.cct.releaseLimit = s.cct.releaseLimit ∧ t.sbt.missLimit = s.sbt.missLimit ∧
  t.txs = { s.txs with sends := t.txs.sends } ∧ (∀ m, s.send m = none → t.send m = none) ∧
  (∀ m r, s.send m = some r → t.send m = some (if s.sendingOf i = some (m, r) then r.stopped else r)) ∧
  (if ownsGrant s i then t.tgu = { s.tgu with grant := none } ∧ t.pins = { s.pins with trxSel := none } ∧
      t.cct.hold = s.cct.hold.set i false
    else t.tgu = s.tgu ∧ t.pins = s.pins ∧ t.cct.hold = s.cct.hold) ∧
  (∀ m, m ≠ n → s.occ m = none → t.occ m = none) ∧
  (∀ m o, m ≠ n → s.occ m = some o →
    (o.sub ≠ i ∨ (o.state = .waiting ∧ o.callLink = none ∧ o.sendLink = none) → t.occ m = some o) ∧
    (o.sub = i → o.callLink ≠ none ∨ o.sendLink ≠ none → t.occ m = none) ∧
    (o.sub = i → o.callLink = none → o.sendLink = none →
      o.state = .awaitingDone ∨ (∃ g, s.tgu.grant = some g ∧ g.sub = i ∧ g.handle % 64 = m) →
      s.rearmed m o (lateAt s m) t)) ∧
  (s.unit .apt).got (s.callsEnded i .stackAbsent ++ s.sendLost i ++ [s.subStateEvent i .absent .camped miss 65535 28])
    (t.unit .apt)

/-- The events of an ABSENT entry for the bound port (R30, R60, R61, R175): OCC_ENDED (CALL_ENDED) for the records linked to
each context ended, OCC_ENDED (SEND_FINISHED) for those linked to the send stopped, and TEXT_SEND_STOPPED. -/
def State.absentEnds (s : State) (i : Sub) : List Event :=
  (s.callsOf i).flatMap (fun x => s.endedOf 9 (slotsWhere (linkedToCall x.2) s)) ++
  (match s.sendingOf i with
    | some (id, _) => s.endedOf 10 (slotsWhere (linkedToSend id) s)
    | none => []) ++ s.sendStopped i

/-- The re-arms of an ABSENT entry disturb no order: every record of the subscription, but that of slot `n`, that is not
WAITING is linked to nothing and its re-arm makes no re-timing; and all starts, now and one period later for those
records, lie in one half-range, where R3 puts them in one order. Then the events of the entry are `State.absentEnds`. -/
def State.quietRearms (s : State) (i : Sub) (n : Nat) : Prop :=
  (∀ m o, m ≠ n → s.occ m = some o → o.sub = i → o.state ≠ .waiting →
    o.callLink = none ∧ o.sendLink = none ∧ s.noShift o) ∧
  ∃ b : HT, ∀ m o, s.occ m = some o → (o.start - b).toNat < 2 ^ 31 ∧
    (o.sub = i → o.state ≠ .waiting →
      (addTicks o.start (o.stagedPeriod.getD o.period * 320) - b).toNat < 2 ^ 31)

/-! ### Attention lines (R204, R208) -/

/-- ATTN_U and ATTN_R of one port as R204 states them: in two-line mode one line for each class, in one-line mode
ATTN_U for both; a masked class drives no line, and with the reset pin asserted no line is driven (R208). -/
def PortUnit.attentionFollows (inReset : Bool) (u : PortUnit) : Prop :=
  (u.attnU = true ↔ inReset = false ∧ ∃ e ∈ u.queue,
    (e.urgent = true ∧ u.maskU = false) ∨ (u.oneLine = true ∧ e.urgent = false ∧ u.maskR = false)) ∧
  (u.attnR = true ↔ inReset = false ∧ u.oneLine = false ∧ ∃ e ∈ u.queue, e.urgent = false ∧ u.maskR = false)

/-- The attention lines of every port follow its queue, masks and mode. -/
def State.attentionFollows (s : State) : Prop := ∀ p, (s.unit p).attentionFollows s.inReset

/-! ### Sizes (R41, R88, R127, R147, R148, R163, R201) -/

/-- Every table has the size the manual gives it, and no event queue holds more than 32 entries. -/
def State.sized (s : State) : Prop :=
  s.ocl.slots.length = 48 ∧ (∀ i, (s.watch i).cells.length = 16) ∧ s.cct.ctxs.length = 4 ∧
  s.txs.pool.length = 64 ∧ s.txs.entries.length = 8 ∧ s.txs.sends.length = 4 ∧
  ∀ p, (s.unit p).queue.length ≤ 32

/-! ### Positions (R6, R8) -/

/-- Every valid anchor lies at most one hyperframe behind HT: its position is below 327,680 (R6). -/
def State.anchorsInRange (s : State) : Prop := ∀ i a, s.anchor i = some a → position s.now a < 327680

/-! ### The grant, TRX_SEL, the class-3 hold and the allowance (R64, R74, R75, R83, R142) -/

/-- With no grant TRX_SEL is none, and a subscription has a class-3 hold exactly while it has a class-3 grant. -/
def State.grantLines (s : State) : Prop :=
  (s.tgu.grant = none → s.pins.trxSel = none) ∧
  ∀ i, s.cct.hold.get i = true ↔ ∃ g, s.tgu.grant = some g ∧ g.sub = i ∧ g.cls = 3

/-- What keeps TRX_SEL at the grant's port (R64): the grant is held by a GRANTED record of its own subscription, at its
own handle; no record is of a DETACHED subscription, so that none can be bound anew while it has the grant (R22, R27);
and out of reset TRX_SEL is the bound port of the grant's subscription. -/
def State.grantHeld (s : State) : Prop :=
  (∀ g, s.tgu.grant = some g → ∃ o, s.occ (g.handle % 64) = some o ∧ o.state = .granted ∧ o.sub = g.sub ∧
    handleAt s (g.handle % 64) = g.handle) ∧
  (∀ n o, s.occ n = some o → (s.sub o.sub).state ≠ .detached) ∧
  (s.inReset = false → ∀ g, s.tgu.grant = some g → s.pins.trxSel = (s.sub g.sub).bound)

/-- The slots charged in the current tune-away window do not exceed the allowance in force (R83). -/
def State.allowanceKept (s : State) : Prop := s.tgu.used ≤ s.tgu.a

/-! ### Links, send slots, cells and triggers (R33, R46, R60, R61, R89, R112, R116, R125, R164) -/

/-- A record with a call link is TRAFFIC or ACCESS and its context is one of its own subscription that is not IDLE (R46,
R60); a record with a send link is TEXT and its send is SENDING on its own subscription (R46, R61). -/
def State.linksHold (s : State) : Prop :=
  ∀ m o, s.occ m = some o →
    (∀ n, o.callLink = some n → (o.kind = .traffic ∨ o.kind = .access) ∧
      ∃ c, s.ctx n = some c ∧ c.state ≠ .idle ∧ c.sub = some o.sub) ∧
    (∀ n, o.sendLink = some n → o.kind = .text ∧ ∃ r, s.send n = some r ∧ r.state = .sending ∧ r.sub = o.sub)

/-- The send slots (R33, R164): an ACTIVE slot holds a SENDING or KEPT record of its subscription and a STAGED slot a STAGED
one; each such record is in its slot and has a serial; and the staged-send-waiting flag is set exactly while a STAGED send
is held behind an empty ACTIVE slot, which in CAMPED never is so. -/
def State.slotsHold (s : State) : Prop :=
  (∀ i id, s.txs.active.get i = some id → ∃ r, s.send id = some r ∧ r.sub = i ∧ (r.state = .sending ∨ r.state = .kept)) ∧
  (∀ i id, s.txs.staged.get i = some id → ∃ r, s.send id = some r ∧ r.sub = i ∧ r.state = .staged) ∧
  (∀ id r, s.send id = some r →
    (r.state = .sending ∨ r.state = .kept → s.txs.active.get r.sub = some id) ∧
    (r.state = .staged → s.txs.staged.get r.sub = some id) ∧ (r.state ≠ .composing → r.serial ≠ none)) ∧
  ∀ i, ((s.sub i).stagedWaiting = true ↔ s.txs.active.get i = none ∧ s.txs.staged.get i ≠ none) ∧
    ((s.sub i).state = .camped → (s.sub i).stagedWaiting = false)

/-- Outside CAMPED the trigger is IDLE (R112, R125); a switch record is held exactly in SWITCHING (R116, R125), and its
target is a TRACKED entry that holds its cell (R117). -/
def State.handoverHolds (s : State) : Prop :=
  ∀ i, ((s.sub i).state ≠ .camped → (s.watch i).trigger = .idle) ∧
    ((s.watch i).switchRec = none ↔ (s.sub i).state ≠ .switching) ∧
    ∀ w, (s.watch i).switchRec = some w → ∃ e, (s.watch i).cells[w.target]? = some e ∧ e.state = .tracked ∧
      e.cell = some { code := w.code, channel := w.channel }

/-- The cell tables (R18, R88, R89): an EMPTY entry has every field at its empty value, another holds a cell that no other
entry holds; a LISTED entry has no filtered level and a TRACKED one has one; the serving entry index names the one SERVING
entry, and it is absent exactly in DETACHED, where the table is empty. -/
def State.cellsHold (s : State) : Prop :=
  ∀ i, (∀ e ∈ (s.watch i).cells, (e.state = .empty → e = CellEntry.emptyEntry) ∧ (e.state ≠ .empty → e.cell ≠ none) ∧
      (e.state = .listed → e.level = none) ∧ (e.state = .tracked → e.level ≠ none)) ∧
    (∀ (j k : Nat) e f, j ≠ k → (s.watch i).cells[j]? = some e → (s.watch i).cells[k]? = some f → e.state ≠ .empty →
      e.cell ≠ f.cell) ∧
    (∀ k : Nat, (s.sub i).serving = some k ↔ ∃ e, (s.watch i).cells[k]? = some e ∧ e.state = .serving) ∧
    ((s.sub i).serving = none ↔ (s.sub i).state = .detached) ∧
    ((s.sub i).state = .detached → ∀ e ∈ (s.watch i).cells, e.state = .empty)

/-! ### Sleep (R2, R179, R183, R190) -/

/-- Out of reset, the count source and the two lines agree with the sleep state (R2, R179): SLOW exactly in DEEP and
WAKING, REF_EN off exactly in DEEP, TRX_PWR on in AWAKE and off in DEEP and WAKING. -/
def State.sleepLines (s : State) : Prop :=
  s.inReset = false →
    (s.tlu.source = .slow ↔ s.scu.sleep = .deep ∨ s.scu.sleep = .waking) ∧
    (s.pins.refEn = false ↔ s.scu.sleep = .deep) ∧
    (s.scu.sleep = .awake → s.pins.trxPwr = true) ∧
    (s.scu.sleep = .deep ∨ s.scu.sleep = .waking → s.pins.trxPwr = false)

/-- Out of reset in DOZE, TRX_PWR is on with a grant, and off with none while the DOZE power-up expiry is held, that is,
before Tn - L (R180). -/
def State.dozePower (s : State) : Prop :=
  s.inReset = false → s.scu.sleep = .doze →
    (s.tgu.grant ≠ none → s.pins.trxPwr = true) ∧
    (s.tgu.grant = none → s.scu.dozeExpiry ≠ none → s.pins.trxPwr = false)

/-- The ratio is in the range R183 accepts and the fraction is below one tick (R178, R183, R190). -/
def State.ratioInRange (s : State) : Prop :=
  16367616 ≤ s.scu.ratio ∧ s.scu.ratio ≤ 16400384 ∧ s.scu.acc < 16777216

end Sys2Proof.Machine
end

