-- ==== Sys2Proof/WellFormed.lean ====
section
/-! DEFINITION. Which commands are well-formed: a body an SPI frame can declare, and holders that exist. -/
namespace Sys2Proof

/-- Well-formedness of a command. A request's body is at most 255 octets, because the body length is one octet
(R197, log 25). UNSUPPORTED_REQUEST has a kind octet of 0 or above 51 (R197). An expiry names a holder that exists: one
of 48 calendar slots (R41), 16 cell-table entries (R88), 4 contexts (R127), 8 reassembly entries (R148). -/
def Instr.wf (i : Instr) : Bool :=
  match i with
  | .graceExpiry slot => decide (slot < 48)
  | .barExpiry _ entry => decide (entry < 16)
  | .setupExpiry ctx => decide (ctx < 4)
  | .releaseExpiry ctx => decide (ctx < 4)
  | .reassemblyTimeout entry => decide (entry < 8)
  | .unsupportedRequest _ kind _ body => (kind == 0 || decide (51 < kind.toNat)) && decide (body.length ≤ 255)
  | other => match other.request? with
    | some (_, _, _, body) => decide (body.length ≤ 255)
    | none => true

end Sys2Proof
end

