-- ==== Sys2Proof/Certificates/Slice0/Obligations.lean ====
section
/-! DEFINITION. The statements about the part, for the provers. Each docstring says what the statement says. -/
open Sys2Proof Sys2Proof.Machine

/-- For every command c and state s: when c is at the front of the queue, step s is exec of c on s with the rest of the
queue. With an empty queue the part idles: step answers s itself (the model's choice, log 5). -/
def Obligations.StepTakesTheFrontCommand : Prop :=
  (∀ c rest s, s.pending = c :: rest → step s = exec c { s with pending := rest }) ∧
  ∀ s, s.pending = [] → step s = .next s

/-- For every command c and every state s, exec c s answers a next state, and the commands waiting are the same in it. A
request the part refuses is answered with a status, which is a next state as well. If in s no evaluation of the
sleep unit is owed, then none is owed in any state that step answers from s: each event makes its evaluation within
itself. The two fields that say so are the model's own (log 4). -/
def Obligations.EveryCommandAnswersANextState : Prop :=
  (∀ c s, ∃ t, exec c s = .next t ∧ t.pending = s.pending) ∧
  (∀ s t, s.settled → step s = .next t → t.settled)

/-- From every state POWER_ON_RESET answers a next state in which: HT is 0, the source FAST, the divider 0 and no anchor
valid; both subscriptions are DETACHED, unbound, with miss counter 0, no serving entry and no waiting send; the miss
limit is 4; every calendar slot is free, fresh, generation 0 and unmarked; there is no grant, W is 1024, A is 32,
the used count 0, nothing staged and every tie preference SUB0; both cell tables are empty with the default trigger
configuration, an IDLE trigger and no switch record; every context is IDLE with all call fields and its timer
absent, the limits 4 s and 2 s, no class-3 hold; the text store is empty, its timeout 120 s, partial delivery on,
the commit counter 0; the sleep unit is AWAKE, all votes STAY_AWAKE, the reference not up, the ratio nominal and not
valid, no last calibration, no recalibration expiry, the due flag clear, a calibration PENDING, the fraction 0, no
plan, no wake timer, no DOZE expiry, and L 4 slots, U 50 ppm, interval 30 s, n 12; each queue holds one RESET_DONE
of cause POWER_ON (32) with its line ATTN_U asserted; TRX_SEL and AUDIO_SEL are none, TRX_PWR and REF_EN on. The
commands waiting stay. (Deduced, log 26: TRX_PWR on, as AWAKE drives it by R179; the DOZE power-up expiry none, as
R180 gives it to DOZE alone; the kept subscription none and a context's direction absent.) -/
def Obligations.PowerOnResetGivesEveryBlockItsValues : Prop :=
  ∀ s, ∃ t, exec .powerOnReset s = .next t ∧ t.pending = s.pending ∧ t.inReset = false ∧
    t.tlu = { ht := 0, source := .fast, divider := 0, anchor := ⟨none, none⟩ } ∧
    (∀ i, t.sub i = {
        bound := none
        state := .detached
        prior := .detached
        miss := 0
        serving := none
        stagedWaiting := false }) ∧ t.sbt.missLimit = 4 ∧
    t.ocl.slots = List.replicate 48 { gen := 0, fresh := true, late := false, kept := none, occ := none } ∧
    t.tgu = {
        grant := none
        window := 0
        used := 0
        w := 1024
        a := 32
        stagedW := none
        stagedA := none
        tie := ⟨.sub0, .sub0, .sub0, .sub0⟩ } ∧
    (∀ i, t.watch i = {
        
        cells := List.replicate 16 {
            state := .empty
            cell := none
            offset := 0
            level := none
            count := 0
            timing := none
            bar := none }
        evalRec := none
        config := {
            k := 2
            h := 4
            ttt := 320 * 32
            mode := .hold
            repeatTicks := 2 * 32000
            barTicks := 10 * 32000 }
        staged := { k := none, h := none, ttt := none, mode := none, repeatTicks := none, barTicks := none }
        trigger := .idle
        switchRec := none
        lateClose := false }) ∧
    t.cct = {
        
        ctxs := List.replicate 4 {
            state := .idle
            sub := none
            direction := none
            digits := none
            reference := none
            audio := false
            cause := none
            started := none
            connected := none
            timer := none }
        setupLimit := 4 * 32000
        releaseLimit := 2 * 32000
        hold := ⟨false, false⟩
        audioSel := none } ∧
    t.txs = {
        pool := List.replicate 64 none
        entries := List.replicate 8 .free
        inbox := []
        timeout := 120 * 32000
        partialOn := true
        sends := List.replicate 4 none
        active := ⟨none, none⟩
        staged := ⟨none, none⟩
        commits := 0 } ∧
    t.scu = {
        sleep := .awake
        votes := ⟨.stayAwake, .stayAwake, .stayAwake⟩
        refUp := false
        ratio := 16384000
        valid := false
        lastCal := none
        recalExpiry := none
        due := false
        cal := .pending
        acc := 0
        plan := none
        wakeTimer := none
        dozeExpiry := none
        lead := 4 * 16
        ppm := 50
        interval := 30 * 32000
        winExp := 12 } ∧
    (∀ p, (t.unit p).queue = [{
        kind := .resetDone
        urgent := true
        sub := none
        subject := none
        cause := 32
        stamp := 0
        detail := [] }] ∧ (t.unit p).lost = false ∧ (t.unit p).latch = none ∧
      (t.unit p).oneLine = false ∧ (t.unit p).maskU = false ∧ (t.unit p).maskR = false ∧ (t.unit p).quiet = false ∧
      (t.unit p).attnU = true ∧ (t.unit p).attnR = false) ∧
    t.pins = { trxSel := none, trxPwr := true, refEn := true }

/-- State.reset has its attention lines following its queues, its tables at their sizes, its anchors in range, its
select line and class-3 hold following the grant, no grant without its record and no record of a DETACHED
subscription, its charged slots within the allowance, its sleep lines in agreement with the sleep state, its ratio
in range, and no evaluation owed; its links, send slots, cell tables and triggers agree. (That no evaluation is owed
at reset is the model's choice for its own field, log 4; TRX_PWR and the DOZE power-up expiry at reset: log 26.) -/
def Obligations.ResetMeetsTheInvariants : Prop :=
  State.reset.attentionFollows ∧ State.reset.sized ∧ State.reset.anchorsInRange ∧ State.reset.grantLines ∧ State.reset.grantHeld ∧
    State.reset.allowanceKept ∧ State.reset.sleepLines ∧ State.reset.dozePower ∧ State.reset.ratioInRange ∧ State.reset.settled ∧
    State.reset.linksHold ∧ State.reset.slotsHold ∧ State.reset.cellsHold ∧ State.reset.handoverHolds

/-- For every well-formed request: decoding the octets of its frame (kind, tag, body length, body) gives the request
itself; octets written after its declared body are ignored (R196); and a transaction released before the declared
body is complete is TRANSACTION_ABORTED (R196). Out of reset the frame, with any octets after it, is answered: its
port holds a response (the model's field, log 11), and the output of the transaction is the fill octet 255
throughout the write phase, then the octets of the response, then 255. An aborted transaction has 255 throughout. -/
def Obligations.EncodedFrameDecodesToItsRequest : Prop :=

  (∀ i p bs, i.wf = true → encodeFrame i = some (p, bs) →
    (∀ extra, decodeFrame p (bs ++ extra) = i) ∧
    (∀ n, n < bs.length → decodeFrame p (bs.take n) = .transactionAborted p) ∧
    ∀ extra s, s.inReset = false → ∃ t r, exec i s = .next t ∧ (t.unit p).response = some r ∧
      ∀ k, transactionOctet p (bs ++ extra) s k =
        if k < bs.length then 255 else if k < bs.length + r.length then r.getD (k - bs.length) 0 else 255) ∧
  ∀ p w s k, decodeFrame p w = .transactionAborted p → transactionOctet p w s k = 255


/-- If in s the attention lines of every port follow its queue, masks and attention mode (and are low while the reset
pin is asserted), then they do in every state that step answers from s. If in s the calendar has 48 slots, each cell
table 16 entries, the call table 4 contexts, the text store 64 buffers, 8 entries and 4 send records, and no event
queue holds more than 32 entries, then the same holds in every state that step answers from s. If in s the position
(HT - anchor) mod 2^32 of every valid anchor is below 327,680, then it is in every state that step answers from s. -/
def Obligations.AttentionLinesSizesAndAnchorsAreKept : Prop :=
  (∀ s t, s.attentionFollows → step s = .next t → t.attentionFollows) ∧
  ((∀ s t, s.sized → step s = .next t → t.sized) ∧
    (∀ s t, s.anchorsInRange → step s = .next t → t.anchorsInRange))

/-- With the tables of s at their sizes. First, as a pair: if in s every record with a call link is TRAFFIC or ACCESS
and its context is one of its own subscription that is not IDLE, every record with a send link is TEXT and its send
SENDING on its subscription; each ACTIVE slot holds a SENDING or KEPT record of its subscription and each STAGED
slot a STAGED one, each such record is in its slot with a serial, and the staged-send-waiting flag is set exactly
while a STAGED send stands behind an empty ACTIVE slot, never in CAMPED: then all this holds in every state that
step answers from s. Second, as a pair: if in s an EMPTY cell entry has all its fields empty, another one a cell
that no other entry holds, a LISTED one no level and a TRACKED one a level, the serving index names the one SERVING
entry and is absent exactly in DETACHED, with the table empty there; the trigger is IDLE outside CAMPED, and a
switch record is held exactly in SWITCHING and names a TRACKED entry that holds its cell: then all this holds in
every state that step answers from s. So in DETACHED and ABSENT the trigger is IDLE and the switch record absent
(R125). -/
def Obligations.LinksSendSlotsCellsAndTriggersHold : Prop :=

  (∀ s t, s.sized → s.linksHold → s.slotsHold → step s = .next t → t.linksHold ∧ t.slotsHold) ∧
  (∀ s t, s.sized → s.cellsHold → s.handoverHolds → step s = .next t → t.cellsHold ∧ t.handoverHolds)


/-- If in s TRX_SEL is none whenever there is no grant, and a subscription has the class-3 hold exactly when the current
grant is its own and of effective class 3, then both hold in every state that step answers from s. If in s, with its
tables at their sizes, a grant is held by a GRANTED record of its own subscription at its own handle, no record is
of a DETACHED subscription, and out of reset TRX_SEL is the bound port of the grant's subscription while there is a
grant, then all three hold in every state that step answers from s (the first two keep the third: a subscription
with a grant is not DETACHED, so its port cannot be bound anew). If in s the used count is at most A in force, then
it is in every state that step answers from s: a charge is made only for a PAGE that fits the remaining allowance,
and A changes only when a window opens with the used count 0, or at a reset. -/
def Obligations.SelectLineHoldAndChargeFollowTheGrants : Prop :=
  ((∀ s t, s.grantLines → step s = .next t → t.grantLines) ∧
    (∀ s t, s.sized → s.grantHeld → step s = .next t → t.grantHeld)) ∧
  (∀ s t, s.allowanceKept → step s = .next t → t.allowanceKept)

/-- If in s, out of reset, the source is SLOW exactly in DEEP and WAKING, REF_EN is off exactly in DEEP, TRX_PWR is on
in AWAKE and off in DEEP and WAKING, then the same holds in every state that step answers from s. If in s the ratio
lies in 16,367,616..16,400,384 and the accumulator is below 2^24, then both hold in every state that step answers
from s. If in s, out of reset in DOZE, TRX_PWR is on with a grant and off with none while a DOZE power-up expiry is
held, then the same holds in every state that step answers from s. An owed evaluation that ends in DOZE leaves
TRX_PWR on exactly when a grant exists or HT is not before Tn - L of the earliest eligible start Tn, and holds the
expiry Tn - L exactly while it has not been reached. From every state the owed evaluation leaves all as it was but
the count source and the divider; the sleep state, reference flag, calibration, plan, wake timer and DOZE expiry;
REF_EN and TRX_PWR; and its own owing (log 4). -/
def Obligations.SleepLinesAndRatioStayInRange : Prop :=
  (∀ s t, s.sleepLines → step s = .next t → t.sleepLines) ∧
  (∀ s t, s.ratioInRange → step s = .next t → t.ratioInRange) ∧
  (∀ s t, s.dozePower → step s = .next t → t.dozePower) ∧
  (∀ s, s.evalDue = true → s.scu.sleep = .awake ∨ s.scu.sleep = .doze → (runEval s).scu.sleep = .doze →
      ((runEval s).pins.trxPwr = true ↔ s.tgu.grant ≠ none ∨
        ∃ t, earliestEligible s = some t ∧ notBefore s.tlu.ht (t - BitVec.ofNat 32 s.scu.lead) = true) ∧
      ∀ e, (runEval s).scu.dozeExpiry = some e ↔
        (∃ t, earliestEligible s = some t ∧ e = t - BitVec.ofNat 32 s.scu.lead) ∧ notBefore s.tlu.ht e = false) ∧
  (∀ s, runEval s = { s with
      tlu := { s.tlu with source := (runEval s).tlu.source, divider := (runEval s).tlu.divider }
      scu := { s.scu with
          sleep := (runEval s).scu.sleep
          refUp := (runEval s).scu.refUp
          cal := (runEval s).scu.cal
          plan := (runEval s).scu.plan
          wakeTimer := (runEval s).scu.wakeTimer
          dozeExpiry := (runEval s).scu.dozeExpiry }
      pins := { s.pins with refEn := (runEval s).pins.refEn, trxPwr := (runEval s).pins.trxPwr }
      evalDue := false
      evalWake := if s.evalDue then false else s.evalWake })


/-- Whatever the command and the state, after it HT is what it was, or it is one more and the command is HT_TICK,
SLOW_CYCLE or ANCHOR_ADVANCE, or it is 0 and the command is POWER_ON_RESET. In particular no request and no expiry
moves HT. -/
def Obligations.HandsetTimeMovesOnlyAtClockEvents : Prop :=
  ∀ c s t, exec c s = .next t →
    t.tlu.ht = s.tlu.ht ∨
    (t.tlu.ht = s.tlu.ht + 1 ∧ (c = .htTick ∨ (∃ f, c = .slowCycle f) ∨ ∃ i, c = .anchorAdvance i)) ∨
    (t.tlu.ht = 0 ∧ c = .powerOnReset)

/-- Every response carries one status code: a well-formed request taken out of reset leaves a response whose first octet
is a code of 0..26. When that code is neither OK (0) nor DUPLICATE_SEGMENT (1), the request is refused: every block
but the ports is as it was (the model also counts the response), every other port is as it was, and on its own port
only the response, the latch, the queue with its lost flag, and the lines that follow it differ. -/
def Obligations.RefusedRequestChangesNoBlock : Prop :=
  ∀ c p kind tag body s t, c.wf = true → c.request? = some (p, kind, tag, body) → s.ready → s.attentionFollows →
    exec c s = .next t →
    ∃ st rest, (t.unit p).response = some (BitVec.ofNat 8 st :: tag :: rest) ∧ st ≤ 26 ∧
      (2 ≤ st →
        t = { s with ports := t.ports, freeCount := s.freeCount + 1 } ∧ (∀ q, q ≠ p → t.unit q = s.unit q) ∧
        t.unit p = { s.unit p with
            response := (t.unit p).response
            latch := (t.unit p).latch
            queue := (t.unit p).queue
            lost := (t.unit p).lost
            attnU := (t.unit p).attnU
            attnR := (t.unit p).attnR })

/-- Out of reset, a well-formed request whose kind is not permitted on its port by the table of R198, or whose kind code
names no kind, is refused UNSUPPORTED whatever its body; a permitted one with a body of more than 248 octets is
refused MALFORMED, and so is a permitted one whose body does not fit its kind: it has not the fixed width of the
kind's operands, or not the number of items or symbols its own count or length octet says (the widths of the
operands and of the codes in a body: log 8). Out of reset, a request whose kind octet is 0 or above 51 answers the
status UNSUPPORTED (2), its tag and an empty body. With the latch empty and the port not quiet, the latch takes
kind, tag, status and HT and one URGENT REFUSAL arrives at the queue; with the latch full only the response is new.
A refusal of any kind and status: a full latch and the queue stay; an empty one takes kind, tag, status and HT, and
one URGENT REFUSAL arrives at the queue, but none while the port is quiet. -/
def Obligations.FramingChecksComeBeforeTheKind : Prop :=
  (∀ c p kind tag body s, c.wf = true → c.request? = some (p, kind, tag, body) → s.inReset = false →
      (permittedOn kind.toNat p = false ∨ kind = 0 ∨ 51 < kind.toNat →
        exec c s = .next (refusedWith p kind tag .unsupported s)) ∧
      (permittedOn kind.toNat p = true → kind ≠ 0 → kind.toNat ≤ 51 →
        248 < body.length ∨ bodyFits kind.toNat body = false →
        exec c s = .next (refusedWith p kind tag .malformed s))) ∧
  (∀ p kind tag st s, latchRefusal p kind tag st s =
      if (s.unit p).latch ≠ none then s
      else if (s.unit p).quiet then s.modUnit p (fun u => { u with
          latch := some { kind := kind, tag := tag, status := st.code, ht := s.tlu.ht } })
      else s.modUnit p (fun u => ({ u with
          latch := some { kind := kind, tag := tag, status := st.code, ht := s.tlu.ht } } : PortUnit).enqueue
          {
              kind := .refusal
              urgent := true
              sub := none
              subject := none
              cause := 0
              stamp := s.tlu.ht
              detail := [kind, tag] ++ oct8 st.code })) ∧
  (∀ p kind tag body s, s.inReset = false → kind = 0 ∨ 51 < kind.toNat →
      ∃ t, exec (.unsupportedRequest p kind tag body) s = .next t ∧ (t.unit p).response = some [2, tag, 0] ∧
        t = { s with ports := t.ports, freeCount := s.freeCount + 1 } ∧
        ((s.unit p).latch = none → (s.unit p).quiet = false →
          (t.unit p).latch = some { kind := kind, tag := tag, status := 2, ht := s.tlu.ht } ∧
          (t.unit p).queue = ((s.unit p).enqueue {
              kind := .refusal
              urgent := true
              sub := none
              subject := none
              cause := 0
              stamp := s.tlu.ht
              detail := [kind, tag, 2] }).queue) ∧
        ((s.unit p).latch = none → (s.unit p).quiet = true →
          (t.unit p).latch = some { kind := kind, tag := tag, status := 2, ht := s.tlu.ht } ∧
          (t.unit p).queue = (s.unit p).queue ∧ (t.unit p).lost = (s.unit p).lost) ∧
        (∀ l, (s.unit p).latch = some l → (t.unit p).latch = some l ∧ (t.unit p).queue = (s.unit p).queue))

/-- RESET_PIN_ASSERTED answers the state with the pin held, no response at any port (log 11), TRX_SEL and AUDIO_SEL none
and REF_EN on, and every attention line low; all else, TRX_PWR, the clocks and every block among it, is as it was
(the model's choice, log 10). While it is held, a well-formed request leaves every block as it was and its port
without a response (logs 10 and 11), and the output of every transaction is the fill octet 255. TRANSACTION_ABORTED
in any state whose lines follow its queues changes nothing but the response of its port, which it leaves without one
(log 11). -/
def Obligations.ResetPinHoldsRequestsOff : Prop :=
  (∀ s, ∃ t, exec .resetPinAsserted s = .next t ∧ t.inReset = true ∧
    t = { s with
        inReset := true
        ports := t.ports
        pins := { s.pins with trxSel := none, refEn := true }
        cct := { s.cct with audioSel := none } } ∧
    ∀ p, t.unit p = { s.unit p with response := none, attnU := false, attnR := false }) ∧
  (∀ c p kind tag body s, c.wf = true → c.request? = some (p, kind, tag, body) → s.inReset = true →
    s.attentionFollows → exec c s = .next (noResponse p s)) ∧
  (∀ p w s k, s.inReset = true → transactionOctet p w s k = 255) ∧
  ∀ p s, s.attentionFollows → exec (.transactionAborted p) s = .next (noResponse p s)

/-- For all HT values T, U and the current HT: T is not before U exactly when (T - U) mod 2^32 is less than 2^31; T is
before U in every other case; T has passed exactly when it is not after HT, that is, when HT is not before T. -/
def Obligations.HalfRangeComparisonDecidesBefore : Prop :=
  ∀ t u now : HT, (notBefore t u = true ↔ (t.toNat + 2 ^ 32 - u.toNat) % 2 ^ 32 < 2 ^ 31) ∧
    (before t u = true ↔ ¬ (t.toNat + 2 ^ 32 - u.toNat) % 2 ^ 32 < 2 ^ 31) ∧
    (passed t now = true ↔ ¬ before now t = true)

/-- For every HT and every 32-bit value a: the normalised anchor lies 0..327,679 ticks behind HT; it is a plus n
hyperframes modulo 2^32, for the n that leaves HT - a, read as a signed 32-bit value, less n hyperframes in
0..327,679 (R7, R9); and a value already in that range is left as it is. With the position of the anchor below
327,680, frame 0..1023 and slot 0..19: the start is anchor + frame x 320 + slot x 16 plus k hyperframes with k at
most 2; it lies in E..E + 327,679 with E = HT + 32; so it is the first such value not before E; and k is 0 exactly
when the first candidate is not before E. -/
def Obligations.NormalisingAndConversion : Prop :=
  (∀ ht a : HT, position ht (normalise ht a) < 327680 ∧
      (∃ n : Int, normalise ht a = a + BitVec.ofInt 32 (n * 327680) ∧ 0 ≤ (ht - a).toInt - n * 327680 ∧
        (ht - a).toInt - n * 327680 < 327680) ∧
      (position ht a < 327680 → normalise ht a = a)) ∧
  (∀ (ht anchor : HT) (frame slot : Nat), position ht anchor < 327680 → frame ≤ 1023 → slot ≤ 19 →
      ∃ k, k ≤ 2 ∧ convert ht anchor frame slot = addTicks anchor (frame * 320 + slot * 16 + k * 327680) ∧
        (convert ht anchor frame slot - addTicks ht 32).toNat < 327680 ∧
        (k = 0 ↔ notBefore (addTicks anchor (frame * 320 + slot * 16)) (addTicks ht 32) = true))

/-- With fewer than 32 entries the arrival is appended and the lost flag kept. With 32: an URGENT arrival on a queue
that is a ++ [r] ++ b, with every entry of a URGENT and r ROUTINE, leaves a ++ b ++ [arrival] and sets the lost
flag; an URGENT arrival on 32 URGENT entries and a ROUTINE arrival on any are dropped and set the lost flag. The
latch, the masks and the mode do not change. On every port, out of reset. FETCH_EVENTS with a maximum of 1..8: the
response carries the number taken, the lost flag and the taken entries of 19 octets each, oldest first; the entries
leave the queue, the rest keep their order, and the lost flag is clear. A maximum of 0 or above 8 is refused
BAD_FIELD. CLEAR_REFUSAL answers the latch's record, eight octets of 0 when it is empty, and empties it. Nothing
else changes. An entry's octets are its kind code (1..23 in the order of R205), its category, subscription (0, 1, or
255 for none), subject (65535 for none), cause, stamp and detail, two and four octets little-endian, padded with 0
to 19. -/
def Obligations.EventQueueAndFetch : Prop :=
  (∀ (u : PortUnit) (e : Event),
      (u.queue.length < 32 → u.enqueue e = { u with queue := u.queue ++ [e] }) ∧
      (32 ≤ u.queue.length → e.urgent = false → u.enqueue e = { u with lost := true }) ∧
      (32 ≤ u.queue.length → e.urgent = true → (∀ x ∈ u.queue, x.urgent = true) → u.enqueue e = { u with lost := true }) ∧
      ∀ a r b, 32 ≤ u.queue.length → e.urgent = true → u.queue = a ++ [r] ++ b → (∀ x ∈ a, x.urgent = true) →
        r.urgent = false → u.enqueue e = { u with queue := a ++ b ++ [e], lost := true }) ∧
  (∀ s tag p, s.ready →
      (∀ m : Octet, 1 ≤ m.toNat → m.toNat ≤ 8 →
        exec (.fetchEvents p tag [m]) s = .next (answered p tag .ok
          (lit (oct8 ((s.unit p).queue.take m.toNat).length ++ oct8 (if (s.unit p).lost then 1 else 0)
            ++ ((s.unit p).queue.take m.toNat).flatMap entryOctets))
          (s.modUnit p (fun u => { u with queue := u.queue.drop m.toNat, lost := false })))) ∧
      (∀ e, (entryOctets e).length = 19 ∧ (e.detail.length ≤ 8 → entryOctets e = oct8 e.kind.code
        ++ oct8 (if e.urgent then 1 else 0) ++ (match e.sub with
          | some .sub0 => oct8 0
          | some .sub1 => oct8 1
          | none => oct8 255) ++ oct16 (e.subject.getD 65535) ++ oct16 e.cause ++ octHt e.stamp ++ e.detail
        ++ List.replicate (8 - e.detail.length) 0)) ∧
      [EventKind.occGranted, .occLost, .occEnded, .hoCandidate, .hoWithdrawn, .switchClosed, .callRequest, .callAnswerReq,
        .callReleaseReq, .callHoldReq, .callResumeReq, .textOutbound, .textSendStopped, .callState, .textArrived,
        .textDiscarded, .textSent, .subState, .calDone, .calOutOfRange, .wakeLate, .refusal, .resetDone].map
        EventKind.code = (List.range 23).map (fun n => n + 1) ∧
      (∀ m : Octet, m.toNat = 0 ∨ 8 < m.toNat →
        exec (.fetchEvents p tag [m]) s = .next (refusedWith p 47 tag .badField s)) ∧
      (∃ b : List Octet, b.length = 8 ∧ exec (.clearRefusal p tag []) s =
          .next (answered p tag .ok (lit b) (s.modUnit p (fun u => { u with latch := none }))) ∧
        ((s.unit p).latch = none → b = [0, 0, 0, 0, 0, 0, 0, 0]) ∧
        ∀ l, (s.unit p).latch = some l → b = [1, l.kind, l.tag] ++ oct8 l.status ++ octHt l.ht))

/-- With k 0..6 and a saturated sample S in -600..-80: a first sample, and every sample with k = 0, gives S x 64; a
later one with k in 1..6 gives F + ((S x 64 - F + 2^(k-1)) shifted right arithmetically by k), which moves towards S
x 64 and stops no further than it; and a level in -38,400..-5,120 stays in it. MEAS_REPORT uses the k in force, so a
change of k applies from the next sample: the function takes k, F and S and nothing else. The margin of an entry is
F + 256 x offset - F_s - 128 x H, where F_s is the level of the SERVING entry, for a TRACKED entry without a bar
that holds a level F; no other entry has one, and none has without F_s. For every table and hysteresis h: when the
evaluation finds entry k with margin m, the table holds that entry at k, it has the margin m, m is positive, every
entry's margin is at most m, and every entry before k has a margin below m or none; when it finds none, no entry has
a positive margin. -/
def Obligations.FilterMarginsAndBestCandidate : Prop :=
  (∀ (k : Nat) (smp : Int), k ≤ 6 → -600 ≤ smp → smp ≤ -80 →
      filterLevel k none smp = smp * 64 ∧ -38400 ≤ smp * 64 ∧ smp * 64 ≤ -5120 ∧
      ∀ f : Int, filterLevel 0 (some f) smp = smp * 64 ∧
        (1 ≤ k → filterLevel k (some f) smp = f + ((smp * 64 - f + 2 ^ (k - 1)) >>> k)) ∧
        (f ≤ smp * 64 → f ≤ filterLevel k (some f) smp ∧ filterLevel k (some f) smp ≤ smp * 64) ∧
        (smp * 64 ≤ f → filterLevel k (some f) smp ≤ f ∧ smp * 64 ≤ filterLevel k (some f) smp) ∧
        (-38400 ≤ f → f ≤ -5120 → -38400 ≤ filterLevel k (some f) smp ∧ filterLevel k (some f) smp ≤ -5120)) ∧
  ((∀ (h : Nat) (cells : List CellEntry) (e : CellEntry) (m : Int), marginOf h (servingLevel cells) e = some m ↔
      ∃ f fs, servingLevel cells = some fs ∧ e.state = .tracked ∧ e.bar = none ∧ e.level = some f ∧
        m = f + 256 * e.offset - fs - 128 * (h : Int)) ∧
    (∀ (cells : List CellEntry) (k : Nat) (e : CellEntry), cells[k]? = some e → e.state = .serving →
      (∀ (j : Nat) (x : CellEntry), j < k → cells[j]? = some x → x.state ≠ .serving) → servingLevel cells = e.level) ∧
    (∀ (cells : List CellEntry), (∀ x ∈ cells, x.state ≠ .serving) → servingLevel cells = none) ∧
    ∀ (h : Nat) (cells : List CellEntry),
      (∀ k e m, bestCandidate h cells = some (k, e, m) →
        cells[k]? = some e ∧ marginOf h (servingLevel cells) e = some m ∧ 0 < m ∧
        ∀ (j : Nat) (x : CellEntry) (n : Int), cells[j]? = some x → marginOf h (servingLevel cells) x = some n → n ≤ m ∧ (j < k → n < m)) ∧
      (bestCandidate h cells = none →
        ∀ (j : Nat) (x : CellEntry) (n : Int), cells[j]? = some x → marginOf h (servingLevel cells) x = some n → n ≤ 0))

/-- For every tie preference and every non-empty list of starters in different calendar slots there is a winner, it is
one of them, and against every other one: its effective class is higher; or the classes are equal, the subscriptions
differ, and it is of the subscription the tie preference names for that class; or class and subscription are equal
and its slot is lower. OCCASION_START with starters that are CAMPED and not SWITCH, the other subscription of each
not in call, no end and no window opening due, each re-arm without re-timing. In DEEP and WAKING every starter is
lost: one OCC_LOST with cause NOT_READY (5) for each, in calendar order at its bound port, then one WAKE_LATE
(URGENT) at the APT with the number lost, the handle of the first and the HT of the start as its stamp; the grant
unit and its lines are as they were. In AWAKE and DOZE with no grant the winner is granted at its base class with
TRX_SEL its bound port; the others are lost with OCC_LOST, cause BUSY (1), before OCC_GRANTED. A lost occurrence
frees its slot or waits one period later, with no late mark. Slots of no starter are as they were. -/
def Obligations.StartHasOneWinnerAndLosesTheOthers : Prop :=

  (∀ (t : TiePrefs) (l : List Starter), l ≠ [] → l.Pairwise (fun x y => x.slot ≠ y.slot) →
    ∃ x, winner t l = some x ∧ x ∈ l ∧ ∀ y ∈ l, y ≠ x →
      y.cls < x.cls ∨ (y.cls = x.cls ∧ y.sub ≠ x.sub ∧ x.sub = tieOf t x.cls) ∨
      (y.cls = x.cls ∧ y.sub = x.sub ∧ x.slot < y.slot)) ∧
  (∀ s l f first, s.ready → endDue s = false → windowDue s = false → starterSlots s = f :: l → s.occ f = some first →
    (∀ n o, n ∈ f :: l → s.occ n = some o →
      (s.sub o.sub).state = .camped ∧ o.kind ≠ .switch ∧ inCall s o.sub.other = false ∧ s.noShift o) →
    ∃ u, exec .occasionStart s = .next (driveAttention (runEval u)) ∧
      (∀ m, m ∉ f :: l → u.ocl.slots[m]? = s.ocl.slots[m]?) ∧
      (s.scu.sleep = .deep ∨ s.scu.sleep = .waking → u.tgu = s.tgu ∧ u.pins = s.pins ∧ u.cct = s.cct ∧ u.sbt = s.sbt ∧
        (∀ n o, n ∈ f :: l → s.occ n = some o → s.rearmed n o false u) ∧
        u.ports = (post .apt {
            kind := .wakeLate
            urgent := true
            sub := none
            subject := some (handleAt s f)
            cause := 0
            stamp := first.start
            detail := oct8 (l.length + 1) } (s.postLost 5 (f :: l) s)).ports) ∧
      (s.scu.sleep = .awake ∨ s.scu.sleep = .doze → s.tgu.grant = none →
        ∀ x o, winner s.tgu.tie ((f :: l).filterMap (fun n => (s.occ n).map (fun y => ⟨n, y.sub, y.kind.base, false⟩))) =
            some x → s.occ x.slot = some o →
          u.tgu = { s.tgu with grant := some { handle := handleAt s x.slot, sub := o.sub, cls := o.kind.base, endHt := addTicks o.start (o.length * 16) } } ∧
          u.pins = { s.pins with trxSel := (s.sub o.sub).bound } ∧
          u.occ x.slot = some { o with state := .granted, endHt := some (addTicks o.start (o.length * 16)) } ∧
          (∀ n y, n ∈ f :: l → n ≠ x.slot → s.occ n = some y → s.rearmed n y false u) ∧
          u.ports = (postBound o.sub (s.occGranted x.slot o o.kind.base 255)
            (s.postLost 1 ((f :: l).filter (fun n => decide (n ≠ x.slot))) s)).ports))


/-- When making a record o answers slot n: n is the lowest free slot; the slot then holds o with no late mark; its
handle judges live; a handle the slot had before, unless the slot was fresh, is stale from then on (the generation
counts up modulo 1024); every other slot is as it was. Resolving the last occurrence of a record as MISSED or
PREEMPTED frees its slot and keeps its late mark and subscription, so that its handle judges late; resolving it
DONE, LOST or passed over frees the slot too, and with no late mark set before the handle judges stale. Every other
slot is as it was. Resolving an occurrence of a record with a period and a remaining count other than 1, whose
placement anchor is its subscription's anchor: the record waits in the same slot, its start and its frame moved by
the staged period when one is held and by its period otherwise, that period in force and none staged, the remaining
count one less unless unbounded, with no end and no grace. Every other slot is as it was. -/
def Obligations.RecordsTakeAndLeaveSlots : Prop :=
  (∀ o s n u, s.sized → (∀ sl ∈ s.ocl.slots, sl.gen < 1024) → makeRecord o s = some (n, u) →
      s.occ n = none ∧ (∀ m, m < n → ∃ x, s.occ m = some x) ∧ u.occ n = some o ∧ s.sameSlotsBut n u ∧
      judge (handleAt u n) u = .live n o false ∧
      ∀ sl, s.ocl.slots[n]? = some sl → sl.fresh = false →
        handleAt u n = (sl.gen + 1) % 1024 * 64 + n ∧ judge (handleAt s n) u = .stale) ∧
  ((∀ n o s, n < 48 → s.sized → s.occ n = some o → o.period = 0 ∨ o.remaining = 1 →
        (∀ r, r = .missed ∨ r = .preempted → (resolve r n s).occ n = none ∧ s.sameSlotsBut n (resolve r n s) ∧
          judge (handleAt s n) (resolve r n s) = .late o.sub) ∧
        (∀ r, r = .done ∨ r = .lost ∨ r = .passedOver → lateAt s n = false →
          (resolve r n s).occ n = none ∧ s.sameSlotsBut n (resolve r n s) ∧
          judge (handleAt s n) (resolve r n s) = .stale)) ∧
    (∀ r n o s p, s.occ n = some o → o.period ≠ 0 → o.remaining ≠ 1 → s.anchor o.sub = some o.placement →
        p = o.stagedPeriod.getD o.period →
        (resolve r n s).occ n = some { o with
            period := p
            stagedPeriod := none
            start := addTicks o.start (p * 320)
            frame := (o.frame + p) % 1024
            remaining := o.remaining - 1
            state := .waiting
            endHt := none
            grace := none } ∧
        s.sameSlotsBut n (resolve r n s)))

/-- When the anchor of a subscription changes from old to new, with shift d and E = HT + 32: a record of the other
subscription, or GRANTED, or AWAITING_DONE, or SWITCH, is as it was; a WAITING record of the subscription with d = 0
keeps its start, and with d not 0 has the candidate start + d. A candidate not before E is the start, under the new
anchor, with the coordinates kept. Before E, a one-shot record is removed; a periodic one is moved on by k whole
periods, k the number that first brings it to E or later, its frame with it and its remaining count k less (0,
unbounded, stays); with a remaining count of at most k it is removed. The shift lies in -163,840..163,839 and
differs from new - old by whole hyperframes when that difference is reduced as R57 reads it (signed, log 9). -/
def Obligations.RetimingMovesTheWaitingRecords : Prop :=
  (∀ s sub old new n o, s.anchor sub = some new → s.occ n = some o →
    (o.sub ≠ sub ∨ o.state ≠ .waiting ∨ o.kind = .switch → (retime sub (some old) new s).occ n = some o) ∧
    (o.sub = sub → o.state = .waiting → o.kind ≠ .switch →
      (shift old new = 0 → (retime sub (some old) new s).occ n = some { o with endHt := none, grace := none, placement := new }) ∧
      (∀ c, shift old new ≠ 0 → c = addShift o.start (shift old new) →
        (notBefore c (addTicks s.tlu.ht 32) = true → (retime sub (some old) new s).occ n =
          some { o with start := c, endHt := none, grace := none, placement := new }) ∧
        (before c (addTicks s.tlu.ht 32) = true → o.period = 0 → (retime sub (some old) new s).occ n = none) ∧
        (before c (addTicks s.tlu.ht 32) = true → 1 ≤ o.period → o.period ≤ 1024 →
          ∃ k, 1 ≤ k ∧ notBefore (addTicks c (k * (o.period * 320))) (addTicks s.tlu.ht 32) = true ∧
            (∀ j, j < k → before (addTicks c (j * (o.period * 320))) (addTicks s.tlu.ht 32) = true) ∧
            (o.remaining = 0 ∨ k < o.remaining → (retime sub (some old) new s).occ n = some { o with
                start := addTicks c (k * (o.period * 320))
                frame := (o.frame + k * o.period) % 1024
                remaining := o.remaining - k
                endHt := none
                grace := none
                placement := new }) ∧
            (1 ≤ o.remaining → o.remaining ≤ k → (retime sub (some old) new s).occ n = none))))) ∧
  ∀ old new : HT, -163840 ≤ shift old new ∧ shift old new < 163840 ∧
    ∃ k : Int, (new - old).toInt = shift old new + k * 327680

/-- What a finding makes of the trigger, and that nothing else changes: IDLE with a candidate runs from now to now +
TTT, or with TTT 0 is REPORTED with a repeat expiry one repeat interval away, and HO_CANDIDATE (URGENT) with the HT,
index, code, channel, margin and levels of the evaluation record, which names that candidate, arrives at the bound
port; RUNNING without a candidate is IDLE; RUNNING with another candidate takes it, keeping its run in mode HOLD and
starting it again in RESTART; REPORTED takes the candidate and keeps its repeat expiry, or without one is IDLE and
queues HO_WITHDRAWN at the bound port. IDLE with none, and RUNNING with its own candidate, stay as they are. -/
def Obligations.TriggerFollowsItsTable : Prop :=

  ∀ s i q, (s.sub i).bound = some q →
    ((s.watch i).trigger = .idle → triggerFinding i none s = s ∧
      (∀ b, (s.watch i).config.ttt ≠ 0 → triggerFinding i (some b) s = s.modWatch i (fun w =>
        { w with trigger := .running b s.tlu.ht (addTicks s.tlu.ht w.config.ttt) })) ∧
      (∀ rec b, (s.watch i).config.ttt = 0 → (s.watch i).evalRec = some rec → rec.best = some b →
        triggerFinding i (some b.index) s = (s.modWatch i (fun w =>
          { w with trigger := .reported b.index (addTicks s.tlu.ht w.config.repeatTicks) })).modUnit (portOf q)
            (fun u => u.enqueue {
                kind := .hoCandidate
                urgent := true
                sub := some i
                subject := some b.index
                cause := b.code
                stamp := rec.ht
                detail := oct16 b.channel ++ oct16 b.margin.toNat ++ oct16 (-b.fs).toNat ++ oct16 (-b.fc).toNat }))) ∧
    (∀ c t0 e, (s.watch i).trigger = .running c t0 e →
      triggerFinding i none s = s.modWatch i (fun w => { w with trigger := .idle }) ∧ triggerFinding i (some c) s = s ∧
      ∀ b, b ≠ c → triggerFinding i (some b) s = s.modWatch i (fun w => { w with
          trigger := (match w.config.mode with | .hold => .running b t0 e | .restart => .running b s.tlu.ht (addTicks s.tlu.ht w.config.ttt)) })) ∧
    (∀ c r, (s.watch i).trigger = .reported c r →
      (∀ b, triggerFinding i (some b) s = s.modWatch i (fun w => { w with trigger := .reported b r })) ∧
      triggerFinding i none s = (s.modWatch i (fun w => { w with trigger := .idle })).modUnit (portOf q) (fun u =>
        u.enqueue { kind := .hoWithdrawn, urgent := false, sub := some i, subject := some c, cause := 0, stamp := s.tlu.ht, detail := [] }))


/-- Out of reset, changing nothing but the response of its port. TIME_READ on every port: HT, floor(HT / 16), the sleep
state, and for each subscription a valid flag with frame and tick of its position. PART_STATUS from the APT: HT,
miss limit, sleep state, and for each subscription its bound port, state, prior state, miss counter, anchor flag,
serving cell, number of records, number of contexts, in-call flag, ACTIVE and STAGED slots and waiting flag.
OCC_LIST with first 0..31 from the bound port: the number of records and, from that position in calendar order, up
to eight items of handle, kind, state, coordinates, start, length, period, staged period, remaining count, links and
late mark. CELL_TABLE_READ with first 0..15: serving index, k, H, the number of entries that are not EMPTY, the
evaluation record, and up to eight entries from that index; in DETACHED and ABSENT then the trigger state and the
switch record (R125). Order, widths, codes and presence octets: logs 6, 7, 28, 29, 31, 32 and 35. -/
def Obligations.TimeStatusAndListsAreRead : Prop :=
  (∀ s p tag, s.ready → s.anchorsInRange →
    exec (.timeRead p tag []) s = .next (answered p tag .ok
      (lit (octHt s.tlu.ht ++ oct32 (s.tlu.ht.toNat / 16) ++ oct8 s.scu.sleep.code)
        ++ optional 4 ((s.anchor .sub0).map (fun a =>
            oct16 ((s.tlu.ht - a).toNat / 320) ++ oct16 ((s.tlu.ht - a).toNat % 320)))
        ++ optional 4 ((s.anchor .sub1).map (fun a =>
            oct16 ((s.tlu.ht - a).toNat / 320) ++ oct16 ((s.tlu.ht - a).toNat % 320)))) s)) ∧
  (∀ s tag (item : Sub → Out), s.ready →
    (∀ i, item i = lit ((match (s.sub i).bound with
          | some .spt0 => oct8 0
          | some .spt1 => oct8 1
          | none => oct8 2) ++ oct8 (s.sub i).state.code ++ oct8 (s.sub i).prior.code ++ oct8 (s.sub i).miss
          ++ octFlag (s.anchor i).isSome)
        ++ optional 4 ((servingCell s i).map (fun c => oct16 c.code ++ oct16 c.channel))
        ++ lit (oct8 (subRecordCount s i) ++ oct8 (ctxCount s i) ++ octFlag (inCall s i)
          ++ (match (s.txs.active.get i).bind s.send with
            | some r => oct8 r.state.code
            | none => oct8 0)
          ++ octFlag (s.txs.staged.get i).isSome ++ octFlag (s.sub i).stagedWaiting)) →
    exec (.partStatus .apt tag []) s = .next (answered .apt tag .ok
      (lit (octHt s.tlu.ht ++ oct8 s.sbt.missLimit ++ oct8 s.scu.sleep.code) ++ item .sub0 ++ item .sub1) s)) ∧
  ∀ s tag (q : StackPort) (i : Sub) (a n : Octet), s.ready → (s.sub i).bound = some q → subOf a.toNat = some i →
    (∀ l, n.toNat ≤ 31 → l = (((calendarOrder s).filter (fun x => decide (x.2.sub = i))).drop n.toNat).take 8 →
      exec (.occList (portOf q) tag [a, n]) s = .next (answered (portOf q) tag .ok
        (lit (oct8 (subRecordCount s i) ++ oct8 l.length) ++ l.flatMap (fun x =>
          lit (oct16 (handleAt s x.1) ++ oct8 x.2.kind.code ++ oct8 x.2.state.code ++ oct16 x.2.frame
              ++ oct8 x.2.slot ++ octHt x.2.start ++ oct8 x.2.length ++ oct16 x.2.period)
            ++ optional 2 (x.2.stagedPeriod.map oct16) ++ lit (oct16 x.2.remaining)
            ++ optional 1 (x.2.callLink.map oct8) ++ optional 1 (x.2.sendLink.map oct8)
            ++ lit (octFlag (lateAt s x.1)))) s)) ∧
    (∀ l, n.toNat ≤ 15 → l = ((s.watch i).cells.zipIdx.drop n.toNat).take 8 →
      exec (.cellTableRead (portOf q) tag [a, n]) s = .next (answered (portOf q) tag .ok
        (optional 1 ((s.sub i).serving.map oct8)
          ++ lit (oct8 (s.watch i).config.k ++ oct8 (s.watch i).config.h
            ++ oct8 ((s.watch i).cells.countP (fun e => decide (e.state ≠ .empty))))
          ++ (match (s.watch i).evalRec with
            | some r => lit (oct8 1 ++ octHt r.ht) ++ optional 11 (r.best.map (fun b => oct8 b.index ++ oct16 b.code
                ++ oct16 b.channel ++ oct16 b.margin.toNat ++ oct16 (-b.fs).toNat ++ oct16 (-b.fc).toNat))
            | none => some 0 :: List.replicate 16 none)
          ++ lit (oct8 l.length) ++ l.flatMap (fun x => lit (oct8 x.2 ++ oct8 x.1.state.code)
            ++ (match x.1.cell with
              | some c => lit (oct16 c.code ++ oct16 c.channel ++ [BitVec.ofInt 8 x.1.offset])
                  ++ optional 2 (x.1.level.map (fun f => oct16 (-f).toNat)) ++ lit (oct16 x.1.count)
                  ++ optional 4 (x.1.timing.map octHt) ++ optional 4 (x.1.bar.map octHt)
                  ++ optional 4 ((marginOf (s.watch i).config.h (servingLevel (s.watch i).cells) x.1).map
                    (fun m => oct32 (BitVec.ofInt 32 m).toNat))
              | none => []))
          ++ (if (s.sub i).state = .detached ∨ (s.sub i).state = .absent then
              lit (oct8 (s.watch i).trigger.code) ++ optional 7 ((s.watch i).switchRec.map (fun x =>
                oct8 x.target ++ oct16 x.code ++ oct16 x.channel ++ oct16 x.handle))
            else [])) s))

/-- Out of reset, changing nothing but the response of its port. CALL_LIST on every port: for each context its id,
state, call fields and timer, the call fields absent for a stack port to which the context's subscription is not
bound, then AUDIO_SEL and both in-call flags. TEXT_LIST from the APT: the number of messages, for each its id,
subscription, segments, total, partial flag, octets held and completion HT, then the entries ASSEMBLING and
COMPLETE, the free buffers and those held by sends. TEXT_READ of segment k of a held message: its fields,
originator, missing list, and the segment with its payload. TEXT_SEND_STATUS of a send 0..3: the state, and for a
record that is not FREE its fields, segments, result and finish cause. Order, widths, codes and presence octets:
logs 6, 7, 28, 33, 34 and 35. -/
def Obligations.CallAndTextListsAreRead : Prop :=
  (∀ s tag p (sees : CallCtx → Bool), s.ready →
    (∀ c, sees c = true ↔ p = .apt ∨ ∃ i q, c.sub = some i ∧ (s.sub i).bound = some q ∧ p = portOf q) →
    exec (.callList p tag []) s = .next (answered p tag .ok
      (s.cct.ctxs.zipIdx.flatMap (fun x => lit (oct8 x.2 ++ oct8 x.1.state.code)
          ++ (if sees x.1 then
              optional 1 (x.1.sub.map (fun i => oct8 (Sub.code i))) ++ optional 1 (x.1.direction.map (fun d => oct8 d.code))
                ++ lit (octString x.1.digits) ++ optional 2 (x.1.reference.map oct16) ++ lit (octFlag x.1.audio)
                ++ optional 2 (x.1.cause.map (fun r => oct8 r.cause.code ++ oct8 r.stack))
                ++ optional 4 (x.1.started.map octHt) ++ optional 4 (x.1.connected.map octHt)
            else optional 1 none ++ optional 1 none ++ lit [0] ++ optional 2 none ++ lit [0] ++ optional 2 none
                ++ optional 4 none ++ optional 4 none)
          ++ optional 4 (x.1.timer.map octHt))
        ++ lit (oct8 (selCode s.cct.audioSel) ++ octFlag (inCall s .sub0) ++ octFlag (inCall s .sub1))) s)) ∧
  (∀ s tag, s.ready →
    exec (.textList .apt tag []) s = .next (answered .apt tag .ok
      (lit (oct8 s.txs.inbox.length ++ s.txs.inbox.flatMap (fun x => oct8 x.id ++ oct8 (Sub.code x.msg.sub)
            ++ oct8 x.msg.segs.length ++ oct8 x.msg.total ++ octFlag x.isPartial
            ++ oct16 (x.msg.segs.map (fun g => (payloadOf s.txs.pool g.buffer).length)).sum ++ octHt x.done)
          ++ oct8 (s.txs.entries.countP Reasm.isAssembling) ++ oct8 (s.txs.entries.countP Reasm.isComplete)
          ++ oct8 (s.txs.pool.countP (fun b => decide (b = none))) ++ oct8 (heldBySends s))) s)) ∧
  (∀ s tag (id k : Octet) g, s.ready → ∀ x ∈ s.txs.inbox, x.id = id.toNat → (∀ y ∈ s.txs.inbox, y.id = id.toNat → y = x) →
    x.msg.segs[k.toNat]? = some g →
    exec (.textRead .apt tag [id, k]) s = .next (answered .apt tag .ok
      (lit (oct8 x.id ++ oct8 (Sub.code x.msg.sub) ++ oct8 x.msg.reference ++ oct8 x.msg.total ++ octFlag x.isPartial
        ++ octHt x.done ++ octString x.msg.originator ++ oct8 x.missing.length ++ x.missing.flatMap oct8
        ++ oct8 g.seq ++ oct8 (payloadOf s.txs.pool g.buffer).length ++ payloadOf s.txs.pool g.buffer)) s)) ∧
  (∀ s tag (id : Octet), s.ready → id.toNat ≤ 3 →
    exec (.textSendStatus .apt tag [id]) s = .next (answered .apt tag .ok
      (match s.send id.toNat with
        | none => lit [0]
        | some r => lit (oct8 r.state.code ++ oct8 (Sub.code r.sub) ++ octString (some r.dest) ++ oct8 r.segs.length
              ++ octFlag r.persist ++ (match r.state with
                | .composing => oct8 2
                | .staged => oct8 1
                | _ => oct8 0))
            ++ optional 2 (r.serial.map oct16) ++ lit (oct8 r.segs.length)
            ++ r.segs.flatMap (fun g => lit (octFlag g.filled ++ oct8 (payloadOf s.txs.pool g.buffer).length
                ++ oct8 g.outcome.code) ++ (match g.outcome with
                  | .failed c => lit (oct8 1 ++ oct8 c)
                  | _ => [some 0, none]))
            ++ optional 1 (r.result.map (fun x => oct8 x.code)) ++ optional 1 (r.finishCause.map (fun x => oct8 x.code))
            ++ lit (oct8 (heldBySends s))) s)) ∧
  ∀ (pool : List (Option (List Octet))) n d, pool[n]? = some (some d) → payloadOf pool n = d

/-- From the bound port, in CAMPED, with a delta d of -160..+160: the anchor becomes anchor + d normalised against HT,
the response carries it with the network frame and tick under it, the waiting records of the subscription are re-
timed by the shift between the two anchors, and the other subscription, the records of all subscriptions, the cell
tables, the grant unit, the calls and the text store are as they were. A delta outside the range is refused
ADJUST_RANGE, and another subscription state SUB_STATE. (The two octets of the delta: log 8; the response's octets
of frame and tick: log 6.) -/
def Obligations.AnchorAdjustMovesTheAnchor : Prop :=
  ∀ s tag i q (a lo hi : Octet), s.ready → (s.sub i).bound = some q → subOf a.toNat = some i →
    (∀ x, (s.sub i).state = .camped → s.anchor i = some x → -160 ≤ s16 lo hi → s16 lo hi ≤ 160 →
      ∃ n u, n = normalise s.tlu.ht (addShift x (s16 lo hi)) ∧
        exec (.anchorAdjust (portOf q) tag [a, lo, hi]) s = .next (answered (portOf q) tag .ok
          (lit (octHt n ++ oct16 (position s.tlu.ht n / 320) ++ oct16 (position s.tlu.ht n % 320))) (runEval u)) ∧
        u = retime i (some x) n (s.setAnchor i (some n)) ∧
        u.anchor i = some n ∧ u.anchor i.other = s.anchor i.other ∧ u.sbt = s.sbt ∧ u.cwu = s.cwu ∧ u.tgu = s.tgu ∧
        u.cct = s.cct ∧ u.txs = s.txs ∧ u.pins = s.pins ∧ s.sameClock u) ∧
    ((s.sub i).state ≠ .camped →
      exec (.anchorAdjust (portOf q) tag [a, lo, hi]) s = .next (refusedWith (portOf q) 2 tag .subState s)) ∧
    ((s.sub i).state = .camped → s16 lo hi < -160 ∨ 160 < s16 lo hi →
      exec (.anchorAdjust (portOf q) tag [a, lo, hi]) s = .next (refusedWith (portOf q) 2 tag .adjustRange s))

/-- With nothing due and the lines following the queues. HT_TICK with the source FAST and the reference reported ready:
HT is one more, the divider 0, and an anchor whose position would reach 327,680 moves up by 327,680; nothing else
changes. ANCHOR_ADVANCE of a subscription at position 327,679 when the next clock event advances HT: it is that
clock event, HT is one more and the subscription's position 0. HT_TICK with the reference not reported ready, and
ANCHOR_ADVANCE that is not due, change nothing (log 1); that ANCHOR_ADVANCE is the clock event itself is the model's
reading (log 3). With nothing due and the ratio in range. In DEEP and WAKING: the fraction becomes (fraction + R)
mod 2^24, HT is one more exactly when the sum reaches 2^24 (an anchor that would reach position 327,680 moves with
it), the wake timer counts down by one, and nothing else changes. In AWAKE and DOZE HT does not move: a RUNNING
calibration opens its window at the first edge and counts one slow cycle and the fast cycles given at each later one
(the model's reading of the counts, log 12). -/
def Obligations.ClockEventsAdvanceHandsetTime : Prop :=
  (∀ s, s.ready → s.attentionFollows → s.nothingDue →
      (s.tlu.source = .fast → s.scu.refUp = true →
        exec .htTick s = .next { s with
            tlu := { s.tlu with
                ht := s.tlu.ht + 1
                divider := 0
                anchor := ⟨s.tlu.anchor.sub0.map (fun x => if (s.tlu.ht + 1 - x).toNat = 327680 then x + 327680 else x), s.tlu.anchor.sub1.map (fun x => if (s.tlu.ht + 1 - x).toNat = 327680 then x + 327680 else x)⟩ } }) ∧
      (s.tlu.source = .slow ∨ s.scu.refUp = false → exec .htTick s = .next s) ∧
      ∀ i a, s.anchor i = some a →
        (position s.tlu.ht a = 327679 →
          (s.tlu.source = .fast ∧ s.scu.refUp = true ∨
            (s.scu.sleep = .deep ∨ s.scu.sleep = .waking) ∧ 16777216 ≤ s.scu.acc + s.scu.ratio) →
          ∃ t, exec (.anchorAdvance i) s = .next t ∧ t.tlu.ht = s.tlu.ht + 1 ∧ t.anchor i = some (a + 327680) ∧
            position t.tlu.ht (a + 327680) = 0 ∧
            (exec .htTick s = .next t ∨ exec (.slowCycle 0) s = .next t)) ∧
        (position s.tlu.ht a ≠ 327679 → exec (.anchorAdvance i) s = .next s)) ∧
  (∀ s f, s.ready → s.attentionFollows → s.nothingDue → s.ratioInRange →
      (s.scu.sleep = .deep ∨ s.scu.sleep = .waking →
        ∃ t, exec (.slowCycle f) s = .next t ∧
          t.scu = { s.scu with
              acc := (s.scu.acc + s.scu.ratio) % 16777216
              wakeTimer := s.scu.wakeTimer.map (fun n => n - 1) } ∧
          (s.scu.acc + s.scu.ratio < 16777216 → t = { s with scu := t.scu }) ∧
          (16777216 ≤ s.scu.acc + s.scu.ratio → t = { s with
              scu := t.scu
              tlu := { s.tlu with
                  ht := s.tlu.ht + 1
                  anchor := ⟨s.tlu.anchor.sub0.map (fun x => if (s.tlu.ht + 1 - x).toNat = 327680 then x + 327680 else x), s.tlu.anchor.sub1.map (fun x => if (s.tlu.ht + 1 - x).toNat = 327680 then x + 327680 else x)⟩ } })) ∧
      (s.scu.sleep = .awake ∨ s.scu.sleep = .doze →
        (∀ r, s.scu.cal = .running r → exec (.slowCycle f) s = .next { s with
            scu := { s.scu with
                cal := .running (if r.counting then { r with
                    slow := r.slow + 1
                    fast := r.fast + f } else { r with counting := true }) } }) ∧
        ((∀ r, s.scu.cal ≠ .running r) → exec (.slowCycle f) s = .next s)))

/-- From the APT, out of reset. BIND(sub, port) of a DETACHED subscription makes the port its bound port and answers it;
UNBIND makes the bound port none; nothing else changes and no event is queued. For a subscription that is not
DETACHED both are refused SUB_STATE. BIND with a sub or port that names none, and UNBIND with a sub that names none,
are refused BAD_FIELD. (Port codes SPT0 0, SPT1 1, and none from 2: log 8. The port code in the answer: log 6.) From
the APT, or from the bound port, in ABSENT: the subscription is CAMPED with prior state ABSENT and miss counter 0,
the late-close mark is clear, SUB_STATE of cause RESUME (29) with the serving cell's code arrives at the APT, and a
waiting STAGED send is SENDING with TEXT_OUTBOUND at the bound port; its anchor, serving entry and binding, the
other subscription, the calendar, the grant unit, the calls and the lines are as they were. In another state it is
refused SUB_STATE. (The response carries the state code CAMPED: logs 6 and 35.) -/
def Obligations.BindUnbindAndResume : Prop :=
  (∀ s tag (a b : Octet), s.ready →
      (∀ i q, subOf a.toNat = some i → stackPortOf b.toNat = some q → (s.sub i).state = .detached →
        exec (.bind .apt tag [a, b]) s =
          .next (answered .apt tag .ok (lit [b]) (s.modSub i (fun r => { r with bound := some q })))) ∧
      (∀ i, subOf a.toNat = some i → (s.sub i).state = .detached →
        exec (.unbind .apt tag [a]) s =
          .next (answered .apt tag .ok [] (s.modSub i (fun r => { r with bound := none })))) ∧
      (∀ i q, subOf a.toNat = some i → stackPortOf b.toNat = some q → (s.sub i).state ≠ .detached →
        exec (.bind .apt tag [a, b]) s = .next (refusedWith .apt 3 tag .subState s) ∧
        exec (.unbind .apt tag [a]) s = .next (refusedWith .apt 4 tag .subState s)) ∧
      (2 ≤ a.toNat → exec (.bind .apt tag [a, b]) s = .next (refusedWith .apt 3 tag .badField s) ∧
        exec (.unbind .apt tag [a]) s = .next (refusedWith .apt 4 tag .badField s)) ∧
      (2 ≤ b.toNat → exec (.bind .apt tag [a, b]) s = .next (refusedWith .apt 3 tag .badField s))) ∧
  (∀ s tag i p (a : Octet), s.ready → subOf a.toNat = some i → p = .apt ∨ s.boundTo i p = true →
      ((s.sub i).state = .absent →
        ∃ u l, exec (.resume p tag [a]) s = .next (answered p tag .ok (lit [1]) (runEval u)) ∧
          (u.sub i).state = .camped ∧ (u.sub i).prior = .absent ∧ (u.sub i).miss = 0 ∧
          (u.sub i).serving = (s.sub i).serving ∧ (u.sub i).bound = (s.sub i).bound ∧
          u.watch i = { s.watch i with lateClose := false } ∧
          (s.unit .apt).got [s.subStateEvent i .camped .absent 0 (((servingCell s i).map Cell.code).getD 65535) 29]
            (u.unit .apt) ∧
          s.promoted i u l ∧ (∀ q, (s.sub i).bound = some q → (s.unit (portOf q)).got l (u.unit (portOf q))) ∧
          u.tlu = s.tlu ∧ State.sameSub i.other s u ∧ u.ocl = s.ocl ∧ u.tgu = s.tgu ∧ u.cct = s.cct ∧
          u.pins = s.pins ∧ s.sameClock u) ∧
      ((s.sub i).state ≠ .absent → exec (.resume p tag [a]) s = .next (refusedWith p 7 tag .subState s)))

/-- From the bound port, not SWITCHING, code 0..1023, with a cell-table entry that is not SERVING: the subscription is
CAMPED with its old state as prior state, miss counter 0 and the binding kept; its anchor is the operand normalised,
and its waiting records are re-timed by the shift between the two anchors. The entry taken is the first that holds
the cell; else the lowest EMPTY one; else, with a level in every TRACKED entry, the neighbour of lowest rank: LISTED
below TRACKED, then the lower level, then the higher index. A SERVING entry that holds the cell leaves the table as
it is; otherwise the taken entry is SERVING, one that held the cell with its fields kept but for the bar, another
with the cell alone, and the former SERVING entry becomes TRACKED with a level and LISTED without. The trigger is
IDLE, the evaluation record absent, the late-close mark clear, the configurations kept. A waiting STAGED send
becomes SENDING with TEXT_OUTBOUND at the bound port; SUB_STATE of cause CAMP (25), or RECAMP (26) from CAMPED,
arrives at the APT. The response carries the anchor, the entry index and the network time. The other subscription,
the grant unit, the calls and the lines are as they were. In SWITCHING it is refused SUB_STATE. (The response's
octets: log 6.) -/
def Obligations.CampMakesTheCellServing : Prop :=

  ∀ s tag i q (a c0 c1 h0 h1 b0 b1 b2 b3 : Octet), s.ready → (s.sub i).bound = some q → subOf a.toNat = some i →
    u16 c0 c1 ≤ 1023 →
    ((s.sub i).state ≠ .switching → (∃ e ∈ (s.watch i).cells, e.state ≠ .serving) →
      ∀ (cell : Cell) (cells : List CellEntry) (r : State) n, cell = { code := u16 c0 c1, channel := u16 h0 h1 } →
        cells = (s.watch i).cells → n = normalise s.tlu.ht (u32 b0 b1 b2 b3) →
        r = retime i (s.anchor i) n (s.setAnchor i (some n)) →
      ∃ k u l, exec (.camp (portOf q) tag [a, c0, c1, h0, h1, b0, b1, b2, b3]) s = .next (answered (portOf q) tag .ok
          (lit (octHt n ++ oct8 k ++ oct16 (position s.tlu.ht n / 320) ++ oct16 (position s.tlu.ht n % 320)))
          (runEval u)) ∧
        u.sub i = { s.sub i with
            state := .camped
            prior := (s.sub i).state
            miss := 0
            serving := some k
            stagedWaiting := (u.sub i).stagedWaiting } ∧
        u.anchor i = some n ∧ u.ocl = r.ocl ∧
        u.watch i = { s.watch i with cells := (u.watch i).cells, trigger := .idle, evalRec := none, lateClose := false } ∧
        (∀ (j : Nat) x, cells[j]? = some x → x.state ≠ .empty → x.cell = some cell →
          (∀ (m : Nat) y, m < j → cells[m]? = some y → y.state ≠ .empty → y.cell ≠ some cell) →
          k = j ∧ (x.state = .serving → (u.watch i).cells = cells) ∧
          (x.state ≠ .serving → (u.watch i).cells[j]? = some { x with state := .serving, bar := none })) ∧
        ((∀ x ∈ cells, x.state ≠ .empty → x.cell ≠ some cell) →
          (u.watch i).cells[k]? = some {
              
              state := .serving
              cell := some cell
              offset := 0
              level := none
              count := 0
              timing := none
              bar := none } ∧
          (∀ (j : Nat) x, cells[j]? = some x → x.state = .empty →
            (∀ (m : Nat) y, m < j → cells[m]? = some y → y.state ≠ .empty) → k = j) ∧
          ((∀ x ∈ cells, x.state ≠ .empty ∧ (x.state = .tracked → x.level ≠ none)) →
            ∃ v, cells[k]? = some v ∧ v.state ≠ .serving ∧
              ∀ (j : Nat) x, j ≠ k → cells[j]? = some x → x.state ≠ .serving →
                (v.state = .listed ∧ (x.state = .tracked ∨ j < k)) ∨
                (v.state = .tracked ∧ x.state = .tracked ∧
                  ∃ f g, v.level = some f ∧ x.level = some g ∧ (f < g ∨ (f = g ∧ j < k))))) ∧
        (∀ (j : Nat) x, j ≠ k → cells[j]? = some x → (∀ y, cells[k]? = some y → y.state ≠ .serving) →
          (u.watch i).cells[j]? = some (if x.state = .serving then
            { x with state := if x.level = none then .listed else .tracked } else x)) ∧
        s.promoted i u l ∧ (r.unit (portOf q)).got l (u.unit (portOf q)) ∧
        (s.unit .apt).got [s.subStateEvent i .camped (s.sub i).state 0 (u16 c0 c1)
          (if (s.sub i).state = .camped then 26 else 25)] (u.unit .apt) ∧
        State.sameSub i.other s u ∧ u.tgu = s.tgu ∧ u.cct = s.cct ∧ u.pins = s.pins ∧ s.sameClock u) ∧
    ((s.sub i).state = .switching →
      exec (.camp (portOf q) tag [a, c0, c1, h0, h1, b0, b1, b2, b3]) s =
        .next (refusedWith (portOf q) 5 tag .subState s))


/-- From the bound port, not DETACHED: the response counts the records removed and the contexts ended; the subscription
is DETACHED with miss counter 0, no serving entry, its binding and waiting flag kept; its prior state is the state
it was in, but ABSENT when it was CAMPED at or above the miss limit and held the grant, whose release gives the
grant-end notice and with it the ABSENT entry (in this order: the model's reading, log 13); it has no anchor, no
calendar record and no context; the APT has a CALL_STATE for each context ended, in id order, TEXT_SENT of a send
stopped and SUB_STATE of cause DETACH (27), before which in that other case the SUB_STATE of ABSENT stands; the
bound port has at most TEXT_SEND_STOPPED, no record removed sending an event; its cell table is empty, its trigger
IDLE, with no evaluation, switch or staged configuration. The other subscription is as it was, and so is every
record of it that is linked to no call or send. In DETACHED it answers counts of 0 (log 6) and changes nothing. -/
def Obligations.DetachTearsTheSubscriptionDown : Prop :=
  ∀ s tag i q (a : Octet), s.ready → s.sized → (s.sub i).bound = some q → subOf a.toNat = some i →
    ((s.sub i).state ≠ .detached →
      ∃ u, exec (.detach (portOf q) tag [a]) s = .next (answered (portOf q) tag .ok
          (lit (oct8 (subRecordCount s i) ++ oct8 (ctxCount s i))) (runEval u)) ∧
        u.sub i = { s.sub i with state := .detached, prior := (u.sub i).prior, miss := 0, serving := none } ∧
        ((s.sub i).state ≠ .camped ∨ (s.sub i).miss < s.sbt.missLimit ∨ (∀ g, s.tgu.grant = some g → g.sub ≠ i) →
          (u.sub i).prior = (s.sub i).state ∧ (s.unit .apt).got (s.callsEnded i .detached ++ s.sendLost i ++
            [s.subStateEvent i .detached (s.sub i).state 0 65535 27]) (u.unit .apt) ∧
          (s.linksHold → s.slotsHold → (s.unit (portOf q)).got (s.sendStopped i) (u.unit (portOf q)))) ∧
        (∀ g o, (s.sub i).state = .camped → s.sbt.missLimit ≤ (s.sub i).miss → s.tgu.grant = some g → g.sub = i →
          s.occ (g.handle % 64) = some o → o.sub = i → handleAt s (g.handle % 64) = g.handle →
          (u.sub i).prior = .absent ∧ (s.unit .apt).got (s.callsEnded i .stackAbsent ++ s.sendLost i ++
            [s.subStateEvent i .absent .camped (s.sub i).miss 65535 28, s.subStateEvent i .detached .absent 0 65535 27])
            (u.unit .apt)) ∧
        u.anchor i = none ∧ (∀ n o, u.occ n = some o → o.sub ≠ i) ∧ (∀ c ∈ u.cct.ctxs, c.isOf i = false) ∧
        (∀ e ∈ (u.watch i).cells, e = CellEntry.emptyEntry) ∧ (u.watch i).evalRec = none ∧
        (u.watch i).trigger = .idle ∧ (u.watch i).switchRec = none ∧ (u.watch i).lateClose = false ∧
        (u.watch i).staged = StagedConfig.absent ∧ State.sameSub i.other s u ∧ s.sameClock u ∧
        ∀ n o, s.occ n = some o → o.sub ≠ i → o.callLink = none → o.sendLink = none → u.occ n = some o) ∧
    ((s.sub i).state = .detached →
      exec (.detach (portOf q) tag [a]) s = .next (answered (portOf q) tag .ok (lit [0, 0]) s))

/-- From the bound port, with operands in range, a valid anchor, links that hold, not refused TOO_SOON, no duplicate,
fewer than 48 records and fewer than 32 of the subscription: one record waits in the lowest free slot, at the
conversion of its coordinates, with the operands as its fields, one occurrence left for a one-shot one; the response
carries its handle and start. Every other slot and every other block is as it was; the sleep unit is given the
insertion notice. (Response octets: log 6.) From the bound port, on a live handle of a record that is not SWITCH,
with no subscription at its miss limit: OCC_CANCEL answers the record's state, the slot is free and the handle stale
from then on, other slots and the subscriptions are as they were, and a grant the record held is ended with TRX_SEL
none (otherwise the grant is as it was). On a live periodic record OCC_PERIOD with a period 1..1024 that holds the
occurrence and its grace answers both periods and stages it, and nothing else changes. OCC_CANCEL of a live SWITCH
record is refused OCC_STATE. (The state code in the response: log 35; its octets: log 6.) -/
def Obligations.SubmitCancelAndPeriodActOnTheCalendar : Prop :=
  (∀ s tag i q k body o a, s.ready → s.sized → bodySubmit body = some o → subOf o.sub = some i →
      (s.sub i).bound = some q → submitKind o.kind = some k → submitOk k o = true → (s.sub i).state ≠ .detached →
      s.anchor i = some a → callLinkOk s i k o.call.get? = true → sendLinkOk s i o.send.get? = true →
      (o.period = 0 → o.exact = 1 →
        notBefore (addTicks a (o.frame * 320 + o.slot * 16)) (addTicks s.tlu.ht 32) = true) →
      duplicateOcc s i k (convert s.tlu.ht a o.frame o.slot) = false → recordCount s < 48 → subRecordCount s i < 32 →
      ∃ n u, exec (.occSubmit (portOf q) tag body) s = .next (answered (portOf q) tag .ok
          (lit (oct16 (handleAt u n) ++ octHt (convert s.tlu.ht a o.frame o.slot))) (runEval u)) ∧
        s.occ n = none ∧ (∀ m, m < n → ∃ x, s.occ m = some x) ∧
        u.occ n = some {
            sub := i
            kind := k
            frame := o.frame
            slot := o.slot
            length := o.length
            start := convert s.tlu.ht a o.frame o.slot
            period := o.period
            stagedPeriod := none
            remaining := if o.period = 0 then 1 else o.count
            callLink := o.call.get?
            sendLink := o.send.get?
            state := .waiting
            endHt := none
            grace := none
            placement := a } ∧
        s.sameSlotsBut n u ∧ u = { s with ocl := u.ocl, evalDue := true, evalWake := u.evalWake }) ∧
  (∀ s tag q (h0 h1 p0 p1 : Octet) n o l, s.ready → judge (u16 h0 h1) s = .live n o l → (s.sub o.sub).bound = some q →
      (o.kind ≠ .switch → s.belowMissLimit →
        ∃ u, exec (.occCancel (portOf q) tag [h0, h1]) s =
            .next (answered (portOf q) tag .ok (lit (oct8 o.state.code)) (runEval u)) ∧
          u.occ n = none ∧ judge (u16 h0 h1) u = .stale ∧ s.sameSlotsBut n u ∧ u.sbt = s.sbt ∧ u.cwu = s.cwu ∧
          u.txs = s.txs ∧ u.cct.ctxs = s.cct.ctxs ∧ u.ports = s.ports ∧ s.sameClock u ∧
          (∀ g, s.tgu.grant = some g → g.handle = handleAt s n → u.tgu.grant = none ∧ u.pins.trxSel = none) ∧
          ((∀ g, s.tgu.grant = some g → g.handle ≠ handleAt s n) → u.tgu = s.tgu ∧ u.pins = s.pins ∧ u.cct = s.cct)) ∧
      (o.kind = .switch → exec (.occCancel (portOf q) tag [h0, h1]) s = .next (refusedWith (portOf q) 11 tag .occState s)) ∧
      (o.period ≠ 0 → 1 ≤ u16 p0 p1 → u16 p0 p1 ≤ 1024 → o.length * 16 + 128 < u16 p0 p1 * 320 →
        exec (.occPeriod (portOf q) tag [h0, h1, p0, p1]) s =
          .next (answered (portOf q) tag .ok (lit (oct16 o.period ++ [p0, p1]))
            (s.modSlot n (fun sl => { sl with occ := some { o with stagedPeriod := some (u16 p0 p1) } })))))

/-- From the bound port, on a live handle of a record that is not SWITCH and is AWAITING_DONE, or GRANTED and holding
the grant, with no subscription at its miss limit and the result 0 or 1: a PAGE clears its subscription's miss
counter (others keep it); a one-shot or last occurrence frees the slot, and a periodic one under an unchanged anchor
waits one period later; a GRANTED record's grant is ended with TRX_SEL none; other slots, the cell tables and the
text store are as they were, and so is every queue when the record is one-shot or its anchor unchanged. A WAITING
record is refused LATE with the late mark set and OCC_STATE without; a late handle LATE. (Result codes OK 0 and
FAILED 1: log 8.) -/
def Obligations.DoneResolvesTheOccurrence : Prop :=
  ∀ s tag q (h0 h1 r : Octet), s.ready → r.toNat ≤ 1 →
    (∀ n o l, judge (u16 h0 h1) s = .live n o l → (s.sub o.sub).bound = some q → o.kind ≠ .switch →
      (s.belowMissLimit →
        o.state = .awaitingDone ∨ (o.state = .granted ∧ ∃ g, s.tgu.grant = some g ∧ g.sub = o.sub) →
        ∃ b u, exec (.occDone (portOf q) tag [h0, h1, r]) s = .next (answered (portOf q) tag .ok b (runEval u)) ∧
          u.sub o.sub = { s.sub o.sub with miss := if o.kind = .page then 0 else (s.sub o.sub).miss } ∧
          u.sub o.sub.other = s.sub o.sub.other ∧
          (o.period = 0 ∨ o.remaining = 1 → u.occ n = none) ∧
          (o.period ≠ 0 → o.remaining ≠ 1 → s.anchor o.sub = some o.placement → ∃ x, u.occ n = some x ∧
            x.state = .waiting ∧ x.start = addTicks o.start (o.stagedPeriod.getD o.period * 320)) ∧
          (o.state = .granted → u.tgu = { s.tgu with grant := none } ∧ u.pins.trxSel = none) ∧
          (o.state = .awaitingDone → u.tgu = s.tgu ∧ u.pins = s.pins) ∧
          s.sameSlotsBut n u ∧ u.cwu = s.cwu ∧ u.txs = s.txs ∧ u.cct.ctxs = s.cct.ctxs ∧ s.sameClock u ∧
          ((o.period ≠ 0 → s.anchor o.sub = some o.placement) → u.ports = s.ports)) ∧
      (o.state = .waiting → exec (.occDone (portOf q) tag [h0, h1, r]) s =
        .next (refusedWith (portOf q) 14 tag (if l then .late else .occState) s))) ∧
    (∀ i, judge (u16 h0 h1) s = .late i → (s.sub i).bound = some q →
      exec (.occDone (portOf q) tag [h0, h1, r]) s = .next (refusedWith (portOf q) 14 tag .late s))

/-- OCCASION_START with one starter, of a CAMPED subscription or a SWITCH record of a SWITCHING one, no grant, no window
opening due and the sleep unit AWAKE or DOZE. With the other subscription not in call, the record becomes GRANTED
with end start + length x 16 and the grant is its, at its base class; TRX_SEL is the bound port, the class-3 hold is
set for class 3, the used count is kept. With the other in call, a PAGE within the remaining allowance is granted at
class 3 and charged; any other starter that is not SWITCH is not granted: no grant, no charge, TRX_SEL as it was.
Other slots, the subscriptions and the text store are as they were when the starter is granted. -/
def Obligations.LoneStarterIsGranted : Prop :=
  ∀ s n o, s.ready → starterSlots s = [n] → s.occ n = some o → (s.sub o.sub).state = .camped ∨ ((s.sub o.sub).state = .switching ∧ o.kind = .switch) →
    s.tgu.grant = none → windowDue s = false → s.scu.sleep = .awake ∨ s.scu.sleep = .doze →
    (∀ cls tune, (tune = false ∧ inCall s o.sub.other = false ∧ cls = o.kind.base) ∨
        (tune = true ∧ inCall s o.sub.other = true ∧ o.kind = .page ∧ o.length ≤ s.tgu.a - s.tgu.used ∧ cls = 3) →
      ∃ u, exec .occasionStart s = .next (driveAttention (runEval u)) ∧
        u.occ n = some { o with state := .granted, endHt := some (addTicks o.start (o.length * 16)) } ∧
        u.tgu = { s.tgu with
            grant := some {
                handle := handleAt s n
                sub := o.sub
                cls := cls
                endHt := addTicks o.start (o.length * 16) }
            used := if tune then s.tgu.used + o.length else s.tgu.used } ∧
        u.pins = { s.pins with trxSel := (s.sub o.sub).bound } ∧
        u.cct.hold = (if cls = 3 then s.cct.hold.set o.sub true else s.cct.hold) ∧ u.cct.ctxs = s.cct.ctxs ∧
        s.sameSlotsBut n u ∧ u.sbt = s.sbt ∧ u.cwu = s.cwu ∧ u.txs = s.txs ∧ s.sameClock u ∧
        ∀ q, (s.sub o.sub).bound = some q → u.unit (portOf q) = (s.unit (portOf q)).enqueue
          {
              kind := .occGranted
              urgent := true
              sub := some o.sub
              subject := some (handleAt s n)
              cause := 0
              stamp := o.start
              detail := octHt (addTicks o.start (o.length * 16)) ++ oct8 o.kind.code ++ oct8 cls ++ oct8 (if tune then s.tgu.a - (s.tgu.used + o.length) else 255) }) ∧
    (inCall s o.sub.other = true → o.kind ≠ .switch → o.kind ≠ .page ∨ s.tgu.a - s.tgu.used < o.length →
      ∃ u, exec .occasionStart s = .next (driveAttention (runEval u)) ∧ u.tgu = s.tgu ∧ u.pins = s.pins ∧
        s.sameSlotsBut n u ∧ (∀ x, u.occ n = some x → x.state = .waiting))

/-- OCCASION_START with one starter, of another slot than the grant, the grant's end and a window opening not due, no
subscription at its miss limit. In AWAKE and DOZE, for a CAMPED starter or a SWITCH one in SWITCHING, at its base
class with the other subscription not in call, or a PAGE within the allowance with it in call at class 3. If the
grantee's class is below 3 and below the starter's, the starter is granted, a tune-away PAGE charged, TRX_SEL its
bound port; the grantee's record leaves or waits one period later with the late mark set; OCC_ENDED with cause
PREEMPTED (8) comes at the grantee's port before OCC_GRANTED. Otherwise the grant unit and its lines are as they
were, and a starter other than SWITCH is lost BUSY (1). A starter is lost SWITCHING (2) when not SWITCH in
SWITCHING; CALL_ON_OTHER_LINE (3) when neither PAGE nor SWITCH with the other subscription in call;
ALLOWANCE_EXHAUSTED (4) when a PAGE longer than the remaining allowance then. Each loss sends OCC_LOST with its
cause, kind and start to the bound port alone, leaves the grant and the lines as they were, and re-arms without a
late mark. One of an ABSENT subscription re-arms with no event. One that survives to DEEP or WAKING leaves the grant
and the lines as they were. -/
def Obligations.GrantGivesWayOnlyToAHigherClassBelowThree : Prop :=

  ∀ s n o g, s.ready → starterSlots s = [n] → s.occ n = some o → s.tgu.grant = some g → g.handle % 64 ≠ n →
    endDue s = false → windowDue s = false → s.belowMissLimit →
    ∃ u, exec .occasionStart s = .next (driveAttention (runEval u)) ∧
      (∀ cls tune, s.scu.sleep = .awake ∨ s.scu.sleep = .doze →
        (s.sub o.sub).state = .camped ∨ ((s.sub o.sub).state = .switching ∧ o.kind = .switch) →
        (tune = false ∧ inCall s o.sub.other = false ∧ cls = o.kind.base) ∨
          (tune = true ∧ inCall s o.sub.other = true ∧ o.kind = .page ∧ o.length ≤ s.tgu.a - s.tgu.used ∧ cls = 3) →
        (g.cls < 3 → g.cls < cls →
          u.tgu = { s.tgu with
              grant := some {
                  handle := handleAt s n
                  sub := o.sub
                  cls := cls
                  endHt := addTicks o.start (o.length * 16) }
              used := if tune then s.tgu.used + o.length else s.tgu.used } ∧
          u.pins = { s.pins with trxSel := (s.sub o.sub).bound } ∧
          u.cct.hold = (if cls = 3 then (s.cct.hold.set g.sub false).set o.sub true else s.cct.hold.set g.sub false) ∧
          u.occ n = some { o with state := .granted, endHt := some (addTicks o.start (o.length * 16)) } ∧
          ∀ x, s.occ (g.handle % 64) = some x → x.sub = g.sub → s.rearmed (g.handle % 64) x true u ∧
            (s.noShift x → u.ports = (postBound o.sub (s.occGranted n o cls (if tune then s.tgu.a - (s.tgu.used + o.length) else 255))
              (postBound x.sub {
                  kind := .occEnded
                  urgent := false
                  sub := some x.sub
                  subject := some (handleAt s (g.handle % 64))
                  cause := 8
                  stamp := s.tlu.ht
                  detail := oct8 x.kind.code ++ octHt x.start } s)).ports)) ∧
        (3 ≤ g.cls ∨ cls ≤ g.cls → u.tgu = s.tgu ∧ u.pins = s.pins ∧ u.cct = s.cct ∧
          (o.kind ≠ .switch → s.rearmed n o false u ∧ s.sameSlotsBut n u ∧
            (s.noShift o → u.ports = (postBound o.sub (s.occLost n o 1) s).ports)))) ∧
      (∀ cause, (cause = 2 ∧ (s.sub o.sub).state = .switching ∧ o.kind ≠ .switch) ∨
          (cause = 3 ∧ (s.sub o.sub).state = .camped ∧ inCall s o.sub.other = true ∧ o.kind ≠ .page ∧ o.kind ≠ .switch) ∨
          (cause = 4 ∧ (s.sub o.sub).state = .camped ∧ inCall s o.sub.other = true ∧ o.kind = .page ∧ s.tgu.a - s.tgu.used < o.length) →
        u.tgu = s.tgu ∧ u.pins = s.pins ∧ u.cct = s.cct ∧ s.rearmed n o false u ∧ s.sameSlotsBut n u ∧
        (s.noShift o → u.ports = (postBound o.sub (s.occLost n o cause) s).ports)) ∧
      ((s.sub o.sub).state = .absent → u.tgu = s.tgu ∧ u.pins = s.pins ∧ u.cct = s.cct ∧ s.rearmed n o false u ∧
        s.sameSlotsBut n u ∧ (s.noShift o → u.ports = s.ports)) ∧
      ((s.sub o.sub).state = .camped → s.scu.sleep = .deep ∨ s.scu.sleep = .waking → u.tgu = s.tgu ∧ u.pins = s.pins)


/-- When the grant's end has come and no subscription is at its miss limit: the grant is absent, TRX_SEL none, the
grantee's class-3 hold clear; the record in the grant's slot is AWAITING_DONE with grace expiry end + 128; other
slots, the subscriptions, cell tables, contexts, text store and queues are as they were. With no grant, or an end
still to come, nothing happens (log 1). When the HT slot number lies in another window than the one held: a staged W
and a staged A come into force and are no longer staged, the used count is 0, and the window number is
floor(floor(HT / 16) / W in force); nothing else changes and no event is queued. Otherwise nothing happens (log 1). -/
def Obligations.OccasionEndAndWindowOpening : Prop :=
  (∀ s, s.ready →
      (∀ g o, s.tgu.grant = some g → s.occ (g.handle % 64) = some o → passed g.endHt s.tlu.ht = true → s.belowMissLimit →
        ∃ u, exec .occasionEnd s = .next (driveAttention (runEval u)) ∧ u.tgu = { s.tgu with grant := none } ∧
          u.pins = { s.pins with trxSel := none } ∧
          u.occ (g.handle % 64) = some { o with state := .awaitingDone, grace := some (addTicks g.endHt 128) } ∧
          s.sameSlotsBut (g.handle % 64) u ∧ u.sbt = s.sbt ∧ u.cwu = s.cwu ∧ u.cct.ctxs = s.cct.ctxs ∧
          u.cct.hold = s.cct.hold.set g.sub false ∧ u.txs = s.txs ∧ u.ports = s.ports ∧ s.sameClock u) ∧
      ((∀ g, s.tgu.grant = some g → passed g.endHt s.tlu.ht = false) → exec .occasionEnd s = .next s)) ∧
  (∀ s, s.ready → s.attentionFollows →
      (s.tlu.ht.toNat / 16 / s.tgu.w ≠ s.tgu.window →
        exec .windowOpening s = .next { s with
            tgu := { s.tgu with
                w := s.tgu.stagedW.getD s.tgu.w
                a := s.tgu.stagedA.getD s.tgu.a
                stagedW := none
                stagedA := none
                used := 0
                window := s.tlu.ht.toNat / 16 / s.tgu.stagedW.getD s.tgu.w } }) ∧
      (s.tlu.ht.toNat / 16 / s.tgu.w = s.tgu.window → exec .windowOpening s = .next s))

/-- When the grace of an AWAITING_DONE record that is not SWITCH has come and its subscription stays below the miss
limit: the slot's late mark is set and its subscription kept; a one-shot or last occurrence frees the slot, a
periodic one under an unchanged anchor waits one period later; a PAGE adds one to its subscription's miss counter
and another kind does not; OCC_ENDED with cause MISSED (7) and the end of the occurrence arrives at the bound port.
Other slots, the grant unit, calls, cell tables and text store are as they were. A grace that is not due does
nothing (log 1). A SWITCH record's grace: the statement ThePartClosesASwitch. When the grace of an AWAITING_DONE
PAGE has come, its subscription is CAMPED with no grant of its own, and the miss brings its counter to the limit:
the subscription is ABSENT with prior state CAMPED, keeps its anchor, binding and serving entry, its trigger is IDLE
and its evaluation record absent, and none of its call contexts is left. The other subscription's record, anchor and
cell watch are as they were. -/
def Obligations.GraceExpiryCountsTheMiss : Prop :=
  (∀ s n, s.ready →
      (∀ o e, s.occ n = some o → o.state = .awaitingDone → o.grace = some e → passed e s.tlu.ht = true →
        o.kind ≠ .switch → (s.sub o.sub).miss + 1 < s.sbt.missLimit → (s.sub o.sub).miss < 15 →
        ∃ u, exec (.graceExpiry n) s = .next (driveAttention (runEval u)) ∧
          u.sub o.sub = { s.sub o.sub with
              miss := if o.kind = .page then (s.sub o.sub).miss + 1 else (s.sub o.sub).miss } ∧
          u.sub o.sub.other = s.sub o.sub.other ∧
          (o.period = 0 ∨ o.remaining = 1 → u.occ n = none ∧ lateAt u n = true) ∧
          (o.period ≠ 0 → o.remaining ≠ 1 → s.anchor o.sub = some o.placement → lateAt u n = true ∧
            ∃ x, u.occ n = some x ∧ x.state = .waiting ∧
              x.start = addTicks o.start (o.stagedPeriod.getD o.period * 320)) ∧
          s.sameSlotsBut n u ∧ u.tgu = s.tgu ∧ u.pins = s.pins ∧ u.cct = s.cct ∧ u.cwu = s.cwu ∧ u.txs = s.txs ∧
          s.sameClock u ∧
          ∀ q, (s.sub o.sub).bound = some q → (o.period ≠ 0 → s.anchor o.sub = some o.placement) →
            u.unit (portOf q) = (s.unit (portOf q)).enqueue
              {
                  kind := .occEnded
                  urgent := false
                  sub := some o.sub
                  subject := some (handleAt s n)
                  cause := 7
                  stamp := s.tlu.ht
                  detail := oct8 o.kind.code ++ octHt (o.endHt.getD o.start) }) ∧
      ((∀ o e, s.occ n = some o → o.state = .awaitingDone → o.grace = some e → passed e s.tlu.ht = false) →
        exec (.graceExpiry n) s = .next s)) ∧
  (∀ s n o e, s.ready → s.sized → s.occ n = some o → o.state = .awaitingDone → o.grace = some e →
      passed e s.tlu.ht = true → o.kind = .page → (s.sub o.sub).state = .camped → (s.sub o.sub).miss < 15 →
      s.sbt.missLimit ≤ (s.sub o.sub).miss + 1 → (∀ g, s.tgu.grant = some g → g.sub ≠ o.sub) →
      ∃ u, exec (.graceExpiry n) s = .next (driveAttention (runEval u)) ∧
        u.sub o.sub = { s.sub o.sub with state := .absent, prior := .camped, miss := (s.sub o.sub).miss + 1 } ∧
        u.anchor o.sub = s.anchor o.sub ∧ (u.watch o.sub).trigger = .idle ∧ (u.watch o.sub).evalRec = none ∧
        (u.watch o.sub).cells = (s.watch o.sub).cells ∧ (∀ c ∈ u.cct.ctxs, c.isOf o.sub = false) ∧
        State.sameSub o.sub.other s u ∧ s.sameClock u)

/-- With the tables at their sizes, the grant held by its own record, and links and send slots in agreement (the
invariants of the statements above). Whatever the command, a subscription at or above the miss limit that is CAMPED
with the grant and loses that grant, or is SWITCHING and leaves that state, is ABSENT afterwards; but DETACHED after
a reset of the part or DETACH, and CAMPED still while it then has a class-3 grant. For a CAMPED one that has the
grant at its end (OCCASION_END), whose granted record is cancelled (OCC_CANCEL, slot free, handle stale, the
record's state answered) or, not a PAGE and linked to nothing, is reported done (OCC_DONE, re-armed), and for one
with no class-3 grant whose missed PAGE brings the counter, up to 15, to the limit (GRACE_EXPIRY, the slot late,
OCC_ENDED with cause MISSED first): it is ABSENT with prior state CAMPED; anchor, cells, configuration, binding and
the other subscription are kept; the trigger is IDLE, the evaluation record absent; its contexts are IDLE with cause
STACK_ABSENT and its SENDING send KEPT, FAILED with LINE_LOST; its grant is ended with TRX_SEL none; its GRANTED and
AWAITING_DONE records with no link re-arm, its linked records are gone, other records stay; the APT has its
CALL_STATE events, TEXT_SENT and SUB_STATE (URGENT, MISS_LIMIT). With no other re-timing, the bound port has
OCC_ENDED for each linked record, first those of its calls and then those of its send, and TEXT_SEND_STOPPED; the
other stack port has nothing. (State code and octets of the responses: logs 6, 28 and 35.) -/
def Obligations.AbsentEntryAtTheMissLimit : Prop :=

  (∀ c s t, s.ready → s.sized → s.grantHeld → s.linksHold → s.slotsHold → exec c s = .next t →
    ∀ i, s.sbt.missLimit ≤ (s.sub i).miss →
      ((s.sub i).state = .camped ∧ ∃ g, s.tgu.grant = some g ∧ g.sub = i ∧ t.tgu.grant ≠ some g) ∨
        ((s.sub i).state = .switching ∧ (t.sub i).state ≠ .switching) →
      (t.sub i).state = .absent ∨
      ((t.sub i).state = .detached ∧
        (c = .powerOnReset ∨ ∃ p tag body, c = .partReset p tag body ∨ c = .detach p tag body)) ∨
      ((t.sub i).state = .camped ∧ ∃ g, t.tgu.grant = some g ∧ g.sub = i ∧ g.cls = 3)) ∧
  (∀ s i g, s.ready → s.sized → s.grantHeld → s.linksHold → s.slotsHold → (s.sub i).state = .camped →
    s.sbt.missLimit ≤ (s.sub i).miss → s.tgu.grant = some g → g.sub = i →
    (passed g.endHt s.tlu.ht = true → ∃ u, exec .occasionEnd s = .next (driveAttention (runEval u)) ∧
      s.sameClock u ∧ s.absentEntered i 48 (s.sub i).miss u ∧
        (s.quietRearms i 48 → ∀ q, (s.sub i).bound = some q → ∀ p, p ≠ .apt →
          (s.unit p).got (if p = portOf q then s.absentEnds i else []) (u.unit p))) ∧
    (∀ tag q (h0 h1 : Octet) n o l, (s.sub i).bound = some q → judge (u16 h0 h1) s = .live n o l → o.kind ≠ .switch →
      g.handle = u16 h0 h1 → ∃ u, exec (.occCancel (portOf q) tag [h0, h1]) s =
        .next (answered (portOf q) tag .ok (lit (oct8 o.state.code)) (runEval u)) ∧
      s.sameClock u ∧ s.absentEntered i n (s.sub i).miss u ∧ u.occ n = none ∧ judge (u16 h0 h1) u = .stale ∧
        (s.quietRearms i n → o.callLink = none → o.sendLink = none → ∀ q, (s.sub i).bound = some q → ∀ p, p ≠ .apt →
          (s.unit p).got (if p = portOf q then s.absentEnds i else []) (u.unit p))) ∧
    (∀ tag q (h0 h1 x : Octet) n o l, (s.sub i).bound = some q → judge (u16 h0 h1) s = .live n o l → o.kind ≠ .switch →
      g.handle = u16 h0 h1 → x.toNat ≤ 1 → o.kind ≠ .page → o.callLink = none → o.sendLink = none →
      ∃ u, exec (.occDone (portOf q) tag [h0, h1, x]) s = .next (answered (portOf q) tag .ok
        (lit (oct8 o.state.code) ++ optional 4 ((u.occ n).map (fun y => octHt y.start)) ++ lit [x]) (runEval u)) ∧
      s.sameClock u ∧ s.absentEntered i n (s.sub i).miss u ∧ s.rearmed n o l u ∧
        (s.quietRearms i 48 → ∀ q, (s.sub i).bound = some q → ∀ p, p ≠ .apt →
          (s.unit p).got (if p = portOf q then s.absentEnds i else []) (u.unit p)))) ∧
  (∀ s i n o e miss, s.ready → s.sized → s.grantHeld → s.linksHold → s.slotsHold → s.occ n = some o →
    o.state = .awaitingDone → o.grace = some e → passed e s.tlu.ht = true → o.kind = .page → o.sub = i →
    (s.sub i).state = .camped → miss = min 15 ((s.sub i).miss + 1) → s.sbt.missLimit ≤ miss →
    (∀ g, s.tgu.grant = some g → g.sub = i → g.cls ≠ 3) →
    ∃ u, exec (.graceExpiry n) s = .next (driveAttention (runEval u)) ∧
      s.sameClock u ∧ s.absentEntered i n miss u ∧ s.rearmed n o true u ∧
        (s.quietRearms i 48 → ∀ q, (s.sub i).bound = some q → ∀ p, p ≠ .apt →
          (s.unit p).got (if p = portOf q then [{
              kind := .occEnded
              urgent := false
              sub := some i
              subject := some (handleAt s n)
              cause := 7
              stamp := s.tlu.ht
              detail := oct8 o.kind.code ++ octHt (o.endHt.getD o.start) }] ++ s.absentEnds i else []) (u.unit p)))


/-- From the bound port, in CAMPED or ABSENT, with at most 15 items of codes 0..1023 and no cell twice: every LISTED or
TRACKED entry afterwards holds the cell of some item, with that item's offset clamped to -15..+15; a SERVING entry
is as it was; a neighbour whose cell an item names keeps its state, level, count, timing and bar in its place; a
neighbour no item names becomes EMPTY; the items that name no cell of the table, in list order, each take the lowest
EMPTY entry then left, as LISTED without level or bar, and the EMPTY entries past them stay EMPTY; in CAMPED the
evaluation record is that of the new table, in ABSENT record and trigger are kept; the configuration and switch
record are kept. The other subscription, the record of this one, the calendar, the grant unit, the calls and the
text store are as they were. In DETACHED and SWITCHING it is refused SUB_STATE. -/
def Obligations.CellListSetReplacesTheNeighbours : Prop :=
  ∀ s tag i q body sub items, s.ready → body.length ≤ 248 → bodyCellList body = some (sub, items) →
    subOf sub = some i → (s.sub i).bound = some q → items.length ≤ 15 → (∀ x ∈ items, x.code ≤ 1023) →
    ((s.sub i).state = .camped ∨ (s.sub i).state = .absent → items.Pairwise (fun x y => x.cell ≠ y.cell) →
      ∃ (b : Out) (u : State), exec (.cellListSet (portOf q) tag body) s = .next (answered (portOf q) tag .ok b u) ∧
        (∀ (k : Nat) (e : CellEntry), (u.watch i).cells[k]? = some e → e.state = .listed ∨ e.state = .tracked →
          ∃ x ∈ items, e.cell = some x.cell ∧ e.offset = max (-15) (min 15 x.offset)) ∧
        (∀ (k : Nat) (e : CellEntry), (s.watch i).cells[k]? = some e → e.state = .serving → (u.watch i).cells[k]? = some e) ∧
        (∀ (k : Nat) (e : CellEntry), (s.watch i).cells[k]? = some e → e.state = .listed ∨ e.state = .tracked →
          ∀ x ∈ items, e.cell = some x.cell →
            (u.watch i).cells[k]? = some { e with offset := max (-15) (min 15 x.offset) }) ∧
        (∀ free added, free = (List.range (s.watch i).cells.length).filter (fun k => match (s.watch i).cells[k]? with
            | some e => decide (e.state = .empty) || (e.state.neighbour && items.all (fun x => decide (e.cell ≠ some x.cell)))
            | none => false) →
          added = items.filter (fun x => (s.watch i).cells.all (fun e => !e.holds x.cell)) →
          (∀ (j k : Nat) x, free[j]? = some k → added[j]? = some x → (u.watch i).cells[k]? = some {
              state := .listed
              cell := some x.cell
              offset := max (-15) (min 15 x.offset)
              level := none
              count := 0
              timing := none
              bar := none }) ∧
          (∀ j k : Nat, free[j]? = some k → added.length ≤ j → ∃ e, (u.watch i).cells[k]? = some e ∧ e.state = .empty)) ∧
        ((s.sub i).state = .camped →
          (u.watch i).evalRec = some (evaluateTable s.tlu.ht (s.watch i).config.h (u.watch i).cells)) ∧
        ((s.sub i).state = .absent → (u.watch i).evalRec = (s.watch i).evalRec ∧
          (u.watch i).trigger = (s.watch i).trigger ∧ u.ports = s.ports) ∧
        (u.watch i).config = (s.watch i).config ∧ (u.watch i).switchRec = (s.watch i).switchRec ∧
        u = { s with cwu := u.cwu, ports := u.ports } ∧ u.watch i.other = s.watch i.other) ∧
    ((s.sub i).state = .detached ∨ (s.sub i).state = .switching →
      exec (.cellListSet (portOf q) tag body) s = .next (refusedWith (portOf q) 15 tag .subState s))

/-- From the bound port, in CAMPED or SWITCHING, with 1..8 samples in range: the response is OK and only this
subscription's cell watch and the queues change. The samples act in list order, each on the table its forerunners
leave: a sample changes the first entry that holds its cell and no other, and none when no entry does; the level is
filtered from the saturated sample under the k in force, LISTED becomes TRACKED, the count goes up to at most
65,535, and a timing carried is stored normalised. In CAMPED the evaluation record is that of the new table at the
current HT; in SWITCHING the record and the trigger are kept. In DETACHED and ABSENT it is refused SUB_STATE. -/
def Obligations.MeasReportFiltersTheSample : Prop :=
  ∀ s tag i q body sub l, s.ready → body.length ≤ 248 → bodyMeas body = some (sub, l) → subOf sub = some i →
    (s.sub i).bound = some q → 1 ≤ l.length → l.length ≤ 8 → (∀ x ∈ l, x.code ≤ 1023 ∧ x.present ≤ 1) →
    ((s.sub i).state = .camped ∨ (s.sub i).state = .switching →
      ∃ b u, exec (.measReport (portOf q) tag body) s = .next (answered (portOf q) tag .ok b u) ∧
        u = { s with cwu := u.cwu, ports := u.ports } ∧ u.watch i.other = s.watch i.other ∧
        (u.watch i).config = (s.watch i).config ∧ (u.watch i).switchRec = (s.watch i).switchRec ∧
        ((s.sub i).state = .camped →
          (u.watch i).evalRec = some (evaluateTable s.tlu.ht (s.watch i).config.h (u.watch i).cells)) ∧
        ((s.sub i).state = .switching → (u.watch i).evalRec = (s.watch i).evalRec ∧
          (u.watch i).trigger = (s.watch i).trigger ∧ u.ports = s.ports) ∧
        (∀ f : List CellEntry → Sample → List CellEntry,
          (∀ cs x, (∀ e ∈ cs, e.holds { code := x.code, channel := x.channel } = false) → f cs x = cs) →
          (∀ cs x n e, cs.findIdx? (fun y => y.holds { code := x.code, channel := x.channel }) = some n → cs[n]? = some e →
            f cs x = cs.set n { e with
                state := if e.state = .listed then .tracked else e.state
                level := some (filterLevel (s.watch i).config.k e.level (max (-600) (min (-80) x.level)))
                count := min 65535 (e.count + 1)
                timing := if x.present = 1 then some (normalise s.tlu.ht x.timing) else e.timing }) →
          (u.watch i).cells = l.foldl f (s.watch i).cells)) ∧
    ((s.sub i).state = .detached ∨ (s.sub i).state = .absent →
      exec (.measReport (portOf q) tag body) s = .next (refusedWith (portOf q) 16 tag .subState s))

/-- Each when it is due, and otherwise nothing happens (log 1). TTT_EXPIRY of a RUNNING trigger, its evaluation record
holding a best candidate: REPORTED with a repeat expiry one repeat interval from HT, and HO_CANDIDATE with the
record's HT, index, code, channel, margin and levels arrives at the bound port. REPEAT_EXPIRY: the same for the
record's candidate; with no candidate in the record the trigger is IDLE and HO_WITHDRAWN names the one reported.
BAR_EXPIRY: the entry's bar is absent. Nothing else changes. From the bound port: in REPORTED the repeat expiry
becomes HT + the repeat interval and the candidate is kept; in IDLE and RUNNING nothing changes; the response
carries the trigger state (IDLE 0, RUNNING 1, REPORTED 2), in REPORTED with the new expiry and in IDLE and RUNNING
with the expiry absent. No event is queued. (Response: state code log 35, octets log 6; the expiry as an optional
field, absent outside REPORTED: log 28.) -/
def Obligations.TriggerExpiriesAndDeclineAct : Prop :=
  (∀ s i q, s.ready → s.attentionFollows → (s.sub i).bound = some q →
      (∀ ht b, candidateEvent i ht b = {
          kind := .hoCandidate
          urgent := true
          sub := some i
          subject := some b.index
          cause := b.code
          stamp := ht
          detail := oct16 b.channel ++ oct16 b.margin.toNat ++ oct16 (-b.fs).toNat ++ oct16 (-b.fc).toNat }) ∧
      (∀ c t0 e rec b, (s.watch i).trigger = .running c t0 e → passed e s.tlu.ht = true → (s.watch i).evalRec = some rec →
        rec.best = some b → exec (.tttExpiry i) s = .next (driveAttention ((s.modWatch i (fun w =>
            { w with trigger := .reported c (addTicks s.tlu.ht (s.watch i).config.repeatTicks) })).modUnit (portOf q)
          (fun u => u.enqueue (candidateEvent i rec.ht b))))) ∧
      (∀ c e rec b, (s.watch i).trigger = .reported c e → passed e s.tlu.ht = true → (s.watch i).evalRec = some rec →
        rec.best = some b → exec (.repeatExpiry i) s = .next (driveAttention ((s.modWatch i (fun w =>
            { w with trigger := .reported b.index (addTicks s.tlu.ht (s.watch i).config.repeatTicks) })).modUnit
          (portOf q) (fun u => u.enqueue (candidateEvent i rec.ht b))))) ∧
      (∀ c e rec, (s.watch i).trigger = .reported c e → passed e s.tlu.ht = true → (s.watch i).evalRec = some rec →
        rec.best = none → exec (.repeatExpiry i) s = .next (driveAttention ((s.modWatch i (fun w =>
            { w with trigger := .idle })).modUnit (portOf q) (fun u => u.enqueue {
                kind := .hoWithdrawn
                urgent := false
                sub := some i
                subject := some c
                cause := 0
                stamp := s.tlu.ht
                detail := [] })))) ∧
      (∀ c t0 e, (s.watch i).trigger = .running c t0 e ∨ (s.watch i).trigger = .reported c e →
        passed e s.tlu.ht = false → exec (.tttExpiry i) s = .next s ∧ exec (.repeatExpiry i) s = .next s) ∧
      (∀ k x e, (s.watch i).cells[k]? = some x → x.bar = some e →
        (passed e s.tlu.ht = true → exec (.barExpiry i k) s =
          .next (s.modWatch i (fun w => { w with cells := w.cells.set k { x with bar := none } }))) ∧
        (passed e s.tlu.ht = false → exec (.barExpiry i k) s = .next s))) ∧
  (∀ s tag i q (a : Octet), s.ready → (s.sub i).bound = some q → subOf a.toNat = some i →
      (∀ c e, (s.watch i).trigger = .reported c e →
        exec (.candidateDecline (portOf q) tag [a]) s = .next (answered (portOf q) tag .ok
          (lit ([2, 1] ++ octHt (addTicks s.tlu.ht (s.watch i).config.repeatTicks)))
          (s.modWatch i (fun w => { w with trigger := .reported c (addTicks s.tlu.ht w.config.repeatTicks) })))) ∧
      ((∀ c e, (s.watch i).trigger ≠ .reported c e) →
        exec (.candidateDecline (portOf q) tag [a]) s = .next (answered (portOf q) tag .ok
          (lit [if (s.watch i).trigger = .idle then 0 else 1] ++ optional 4 none) s)))

/-- From the bound port with presence octets 0 or 1. Outside SWITCHING: k is clamped to 0..6, hysteresis to 0..30, TTT
to 0..5120 ms, the mode is HOLD for 0 and RESTART otherwise, the repeat interval 1..60 s and the bar time 1..300 s;
absent fields keep the setting. With the trigger not RUNNING, or no TTT given, nothing else changes. A TTT given to
a RUNNING trigger moves its expiry to the run start + TTT, and nothing else changes, when that is after HT; when it
is not, the trigger is REPORTED with a repeat expiry one (new) repeat interval from HT, and HO_CANDIDATE with the
figures of the evaluation record arrives at the bound port. In SWITCHING the settings in force are as they were, and
each present field replaces the staged one. (In ticks: 32 a millisecond, 32,000 a second. Widths of the body's
settings, one octet for k and hysteresis: log 8.) The response: whether settings were staged, those in force, the
staged ones, the trigger state, and in DETACHED and ABSENT the switch record (R125; octets, codes and presence
octets: logs 6, 28, 32, 35). -/
def Obligations.CellConfigClampsAndStages : Prop :=
  ∀ s tag i q (a kp k hp h tp t0 t1 mp m rp r0 r1 bp b0 b1 : Octet), s.ready → (s.sub i).bound = some q →
    subOf a.toNat = some i →
    kp.toNat ≤ 1 → hp.toNat ≤ 1 → tp.toNat ≤ 1 → mp.toNat ≤ 1 → rp.toNat ≤ 1 → bp.toNat ≤ 1 →
    ∃ b u, exec (.cellConfig (portOf q) tag [a, kp, k, hp, h, tp, t0, t1, mp, m, rp, r0, r1, bp, b0, b1]) s =
        .next (answered (portOf q) tag .ok b u) ∧
      (∀ w, w = u.watch i →
        b = lit (octFlag (decide ((s.sub i).state = .switching ∧ (kp = 1 ∨ hp = 1 ∨ tp = 1 ∨ mp = 1 ∨ rp = 1 ∨ bp = 1)))
            ++ oct8 w.config.k ++ oct8 w.config.h ++ oct16 (w.config.ttt / 32) ++ oct8 w.config.mode.code
            ++ oct16 (w.config.repeatTicks / 32000) ++ oct16 (w.config.barTicks / 32000))
          ++ optional 1 (w.staged.k.map oct8) ++ optional 1 (w.staged.h.map oct8)
          ++ optional 2 (w.staged.ttt.map (fun x => oct16 (x / 32)))
          ++ optional 1 (w.staged.mode.map (fun x => oct8 x.code))
          ++ optional 2 (w.staged.repeatTicks.map (fun x => oct16 (x / 32000)))
          ++ optional 2 (w.staged.barTicks.map (fun x => oct16 (x / 32000)))
          ++ lit (oct8 w.trigger.code)
          ++ (if (s.sub i).state = .detached ∨ (s.sub i).state = .absent then
              optional 7 (w.switchRec.map (fun x => oct8 x.target ++ oct16 x.code ++ oct16 x.channel ++ oct16 x.handle))
            else [])) ∧
      ((s.sub i).state ≠ .switching → ∀ w cfg, w = s.watch i →
        cfg = {
            k := if kp = 1 then min 6 k.toNat else w.config.k
            h := if hp = 1 then min 30 h.toNat else w.config.h
            ttt := if tp = 1 then min 5120 (u16 t0 t1) * 32 else w.config.ttt
            mode := if mp = 1 then (if m = 0 then .hold else .restart) else w.config.mode
            repeatTicks := if rp = 1 then max 1 (min 60 (u16 r0 r1)) * 32000 else w.config.repeatTicks
            barTicks := if bp = 1 then max 1 (min 300 (u16 b0 b1)) * 32000 else w.config.barTicks } →
        ((tp = 0 ∨ ∀ c x e, w.trigger ≠ .running c x e) → u = s.modWatch i (fun w => { w with config := cfg })) ∧
        (∀ c x e, tp = 1 → w.trigger = .running c x e →
          (passed (addTicks x cfg.ttt) s.tlu.ht = false →
            u = s.modWatch i (fun w => { w with config := cfg, trigger := .running c x (addTicks x cfg.ttt) })) ∧
          (∀ rec best, passed (addTicks x cfg.ttt) s.tlu.ht = true → w.evalRec = some rec → rec.best = some best →
            u = (s.modWatch i (fun w => { w with config := cfg, trigger := .reported c (addTicks s.tlu.ht cfg.repeatTicks) })).modUnit
              (portOf q) (fun y => y.enqueue (candidateEvent i rec.ht best))))) ∧
      ((s.sub i).state = .switching →
        u = s.modWatch i (fun w => { w with
            staged := {
                k := if kp = 1 then some (min 6 k.toNat) else w.staged.k
                h := if hp = 1 then some (min 30 h.toNat) else w.staged.h
                ttt := if tp = 1 then some (min 5120 (u16 t0 t1) * 32) else w.staged.ttt
                mode := if mp = 1 then some (if m = 0 then .hold else .restart) else w.staged.mode
                repeatTicks := if rp = 1 then some (max 1 (min 60 (u16 r0 r1)) * 32000) else w.staged.repeatTicks
                barTicks := if bp = 1 then some (max 1 (min 300 (u16 b0 b1)) * 32000) else w.staged.barTicks } }))

/-- From the bound port, in CAMPED with an anchor, operands in range, the target TRACKED and not barred, room in the
calendar: a one-shot SWITCH record waits in a free slot at the conversion of its coordinates; the switch record
holds the target, its code, channel and the handle; the late-close mark is clear, the trigger IDLE; the subscription
is SWITCHING with prior state CAMPED; SUB_STATE of cause SWITCH_BEGIN (30) with the serving cell's code arrives at
the APT and no other event is queued; the response carries handle, start, target, code and channel. The anchor, cell
table, evaluation record, other subscription, other slots, grant unit, calls and text store are as they were. A
barred target is refused TARGET_BARRED, and another state SUB_STATE. (Response octets: log 6.) -/
def Obligations.SwitchBeginHoldsTheSubscription : Prop :=
  ∀ s tag i q (a t f0 f1 sl len : Octet), s.ready → s.sized → (s.sub i).bound = some q → subOf a.toNat = some i →
    t.toNat ≤ 15 → u16 f0 f1 ≤ 1023 → sl.toNat ≤ 19 → 1 ≤ len.toNat → len.toNat ≤ 64 →
    (∀ x e c, (s.sub i).state = .camped → s.anchor i = some x → (s.watch i).cells[t.toNat]? = some e →
      e.state = .tracked → e.cell = some c →
      (e.bar = none → recordCount s < 48 → subRecordCount s i < 32 →
        ∃ n u, exec (.switchBegin (portOf q) tag [a, t, f0, f1, sl, len]) s = .next (answered (portOf q) tag .ok
            (lit (oct16 (handleAt u n) ++ octHt (convert s.tlu.ht x (u16 f0 f1) sl.toNat) ++ [t] ++ oct16 c.code
              ++ oct16 c.channel)) (runEval u)) ∧
          s.occ n = none ∧ (∃ o, u.occ n = some o ∧ o.kind = .switch ∧ o.sub = i ∧ o.state = .waiting ∧
            o.start = convert s.tlu.ht x (u16 f0 f1) sl.toNat ∧ o.length = len.toNat ∧ o.period = 0 ∧
            o.remaining = 1 ∧ o.placement = x) ∧
          u.sub i = { s.sub i with state := .switching, prior := .camped } ∧
          u.watch i = { s.watch i with
              switchRec := some { target := t.toNat, code := c.code, channel := c.channel, handle := handleAt u n }
              lateClose := false
              trigger := .idle } ∧
          s.sameSlotsBut n u ∧ u.tlu = s.tlu ∧ State.sameSub i.other s u ∧ u.tgu = s.tgu ∧ u.cct = s.cct ∧
          u.txs = s.txs ∧ u.pins = s.pins ∧ s.sameClock u ∧
          (s.unit .apt).got [s.subStateEvent i .switching .camped (s.sub i).miss
            (((servingCell s i).map Cell.code).getD 65535) 30] (u.unit .apt) ∧ ∀ p, p ≠ .apt → u.unit p = s.unit p) ∧
      (e.bar ≠ none → exec (.switchBegin (portOf q) tag [a, t, f0, f1, sl, len]) s =
        .next (refusedWith (portOf q) 19 tag .targetBarred s))) ∧
    ((s.sub i).state ≠ .camped → exec (.switchBegin (portOf q) tag [a, t, f0, f1, sl, len]) s =
      .next (refusedWith (portOf q) 19 tag .subState s))

/-- From the bound port, in SWITCHING with a switch record whose occasion is held in its slot and whose target is an
entry of the table, with no subscription at its miss limit (SUCCESS 0, FAILURE 1: log 8; response octets: log 6; its
closing octet 1, the code of CAMPED: log 35). In both results the subscription is CAMPED with prior state SWITCHING,
there is no switch record, the late-close mark is clear, the trigger IDLE, the staged settings are in force and none
staged, the SWITCH occasion is gone from its slot, and a grant it held is ended with TRX_SEL none and its class-3
hold clear, any other grant being kept; SUB_STATE of cause SWITCH_CLOSED (31) with the code of the serving cell
arrives at the APT, and a waiting STAGED send is SENDING with TEXT_OUTBOUND. SUCCESS takes the anchor operand when
present and the target's stored timing otherwise, normalised, as the anchor; the waiting records of the subscription
are re-timed by the shift between the two anchors, and the response counts the records that this loses; the target
is the SERVING entry without a bar and the serving index is its, and the former SERVING entry is TRACKED with a
level and LISTED without. With neither it is refused NO_TIMING. FAILURE: the target's bar is HT + bar time, and the
anchor, the serving index, the other entries and the other slots are as they were. With an IDLE trigger no other
event is queued. Outside SWITCHING it is refused LATE with the late-close mark set and SUB_STATE without. -/
def Obligations.SwitchEndClosesTheSwitch : Prop :=
  ∀ s tag i q (a r pr b0 b1 b2 b3 : Octet), s.ready → (s.sub i).bound = some q → subOf a.toNat = some i →
    r.toNat ≤ 1 → pr.toNat ≤ 1 →
    (∀ sw o e, (s.sub i).state = .switching → (s.watch i).switchRec = some sw → s.occ (sw.handle % 64) = some o →
      o.period = 0 → o.kind = .switch → s.belowMissLimit → (s.watch i).cells[sw.target]? = some e →
      (∀ given, (r = 0 ∧ ((pr = 1 ∧ given = some (u32 b0 b1 b2 b3)) ∨ (pr = 0 ∧ given = e.timing ∧ e.timing ≠ none))) ∨
          (r = 1 ∧ given = none) →
        ∃ out u l, exec (.switchEnd (portOf q) tag [a, r, pr, b0, b1, b2, b3]) s =
            .next (answered (portOf q) tag .ok out (runEval u)) ∧
          (u.sub i).state = .camped ∧ (u.sub i).prior = .switching ∧ (u.sub i).bound = some q ∧
          (u.sub i).miss = (s.sub i).miss ∧ (u.watch i).switchRec = none ∧ (u.watch i).lateClose = false ∧
          (u.watch i).trigger = .idle ∧ (u.watch i).staged = StagedConfig.absent ∧
          (u.watch i).config = (s.watch i).config.over (s.watch i).staged ∧ u.occ (sw.handle % 64) = none ∧
          s.promoted i u l ∧ (s.unit .apt).got [s.subStateEvent i .camped .switching (s.sub i).miss
            (((servingCell u i).map Cell.code).getD 65535) 31] (u.unit .apt) ∧
          State.sameSub i.other s u ∧ s.sameClock u ∧
          (∀ g, s.tgu.grant = some g → g.handle = handleAt s (sw.handle % 64) →
            u.tgu = { s.tgu with grant := none } ∧ u.pins.trxSel = none ∧ u.cct.hold = s.cct.hold.set g.sub false) ∧
          ((∀ g, s.tgu.grant = some g → g.handle ≠ handleAt s (sw.handle % 64)) →
            u.tgu = s.tgu ∧ u.pins = s.pins ∧ u.cct = s.cct) ∧
          (∀ x, given = some x → ∃ y r k, y = normalise s.tlu.ht x ∧ u.anchor i = some y ∧
            r = retime i (s.anchor i) y (s.setAnchor i (some y)) ∧ k = subRecordCount s i - subRecordCount r i ∧
            (∀ m, m ≠ sw.handle % 64 → u.ocl.slots[m]? = r.ocl.slots[m]?) ∧
            ((s.watch i).trigger = .idle → (r.unit (portOf q)).got l (u.unit (portOf q))) ∧
            (∀ (j : Nat) z, j ≠ sw.target → (s.watch i).cells[j]? = some z → (u.watch i).cells[j]? =
              some (if z.state = .serving then { z with state := if z.level = none then .listed else .tracked } else z)) ∧
            out = lit (oct8 sw.target ++ octHt y ++ oct16 (position s.tlu.ht y / 320)
              ++ oct16 (position s.tlu.ht y % 320) ++ oct8 k ++ [1]) ∧
            (u.sub i).serving = some sw.target ∧ (u.watch i).evalRec = none ∧
            (u.watch i).cells[sw.target]? = some { e with state := .serving, bar := none }) ∧
          (given = none → s.sameSlotsBut (sw.handle % 64) u ∧ u.anchor i = s.anchor i ∧
            ((s.watch i).trigger = .idle → (s.unit (portOf q)).got l (u.unit (portOf q))) ∧ (u.sub i).serving = (s.sub i).serving ∧
            out = lit (octHt (addTicks s.tlu.ht (s.watch i).config.barTicks) ++ [1]) ∧
            (u.watch i).cells = (s.watch i).cells.set sw.target
              { e with bar := some (addTicks s.tlu.ht (s.watch i).config.barTicks) })) ∧
      (r = 0 → pr = 0 → e.timing = none → exec (.switchEnd (portOf q) tag [a, r, pr, b0, b1, b2, b3]) s =
        .next (refusedWith (portOf q) 20 tag .noTiming s))) ∧
    ((s.sub i).state ≠ .switching →
      exec (.switchEnd (portOf q) tag [a, r, pr, b0, b1, b2, b3]) s =
        .next (refusedWith (portOf q) 20 tag (if (s.watch i).lateClose then .late else .subState) s))

/-- A SWITCH record (one-shot) of a SWITCHING subscription below its miss limit, with an IDLE trigger and no waiting
send. Timeout: GRACE_EXPIRY of it when its grace has come; cause SWITCH_TIMEOUT (11), the slot's late mark set.
Loss: OCCASION_START with it as the one starter, no end and no window opening due; cause BUSY (1) when a class-3
grant stands, NOT_READY (5) in DEEP or WAKING, CALL_ON_OTHER_LINE (3) with the other line in call. Either way: the
record is gone; the target's bar is HT + the bar time in force before; SWITCH_CLOSED (URGENT) with target, cause,
SWITCH handle and bar arrives at the bound port, after the OCC_LOST of a loss; there is no switch record, the late-
close mark is set, the trigger IDLE; the staged settings are in force and none staged; the subscription is CAMPED
with prior state SWITCHING, and but for NOT_READY its SUB_STATE (SWITCH_CLOSED, 31) is the one event at the APT. The
anchor, serving entry, miss counter, other subscription, other slots, grant unit, calls and text store are as they
were. -/
def Obligations.ThePartClosesASwitch : Prop :=
  ∀ s n o sw i, s.ready → s.occ n = some o → o.kind = .switch → o.period = 0 → o.sub = i →
    (s.sub i).state = .switching → (s.watch i).switchRec = some sw → (s.sub i).miss < s.sbt.missLimit →
    (s.watch i).trigger = .idle → (s.sub i).stagedWaiting = false →
    ∀ (c : Instr) (cause : Cause) (events : List Event), (c = .graceExpiry n ∧ cause = Cause.switchTimeout ∧ o.state = .awaitingDone ∧
          expired o.grace s.tlu.ht = true ∧ events = []) ∨
        (c = .occasionStart ∧ starterSlots s = [n] ∧ endDue s = false ∧ windowDue s = false ∧
          ((cause = .busy ∧ (s.scu.sleep = .awake ∨ s.scu.sleep = .doze) ∧ inCall s i.other = false ∧
              ∃ g, s.tgu.grant = some g ∧ 3 ≤ g.cls) ∨
            (cause = .notReady ∧ (s.scu.sleep = .deep ∨ s.scu.sleep = .waking) ∧ inCall s i.other = false) ∨
            (cause = .callOnOtherLine ∧ inCall s i.other = true)) ∧
          events = [{
              kind := .occLost
              urgent := false
              sub := some i
              subject := some (handleAt s n)
              cause := cause.code
              stamp := s.tlu.ht
              detail := oct8 5 ++ octHt o.start }]) →
      ∃ u, exec c s = .next (driveAttention (runEval u)) ∧ u.occ n = none ∧
        lateAt u n = decide (cause = .switchTimeout) ∧
        u.sub i = { s.sub i with state := .camped, prior := .switching } ∧
        u.watch i = { s.watch i with
            cells := (s.watch i).cells.modify sw.target (fun e => { e with
                bar := some (addTicks s.tlu.ht (s.watch i).config.barTicks) })
            config := {
                k := (s.watch i).staged.k.getD (s.watch i).config.k
                h := (s.watch i).staged.h.getD (s.watch i).config.h
                ttt := (s.watch i).staged.ttt.getD (s.watch i).config.ttt
                mode := (s.watch i).staged.mode.getD (s.watch i).config.mode
                repeatTicks := (s.watch i).staged.repeatTicks.getD (s.watch i).config.repeatTicks
                barTicks := (s.watch i).staged.barTicks.getD (s.watch i).config.barTicks }
            staged := StagedConfig.absent
            switchRec := none
            lateClose := true } ∧
        (∀ q, (s.sub i).bound = some q → u.unit (portOf q) = (events ++ ([{
            kind := .switchClosed
            urgent := true
            sub := some i
            subject := some sw.target
            cause := cause.code
            stamp := s.tlu.ht
            detail := oct16 sw.handle ++ octHt (addTicks s.tlu.ht (s.watch i).config.barTicks) }] : List Event)).foldl
            PortUnit.enqueue (s.unit (portOf q))) ∧
        (cause ≠ .notReady → u.unit .apt = (s.unit .apt).enqueue (s.subStateEvent i .camped .switching (s.sub i).miss
          (((servingCell s i).map Cell.code).getD 65535) 31)) ∧
        u.tlu = s.tlu ∧ State.sameSub i.other s u ∧ s.sameSlotsBut n u ∧ u.tgu = s.tgu ∧ u.pins = s.pins ∧
        u.cct = s.cct ∧ u.txs = s.txs ∧ s.sameClock u

/-- With the subscription CAMPED or SWITCHING, fewer than two contexts of its own, and n the lowest IDLE context.
CALL_DIAL from the APT, digits 1..32 symbols, the other subscription not in call: context n is DIALING, MO, with the
digits, started now and a setup expiry HT + setup limit; CALL_REQUEST arrives at the bound port. CALL_INCOMING from
the bound port, at most 32 symbols, the reference held by no context of the subscription: context n is ALERTING, MT,
with the reference and digits (absent when empty), started now, no timer. Each sends CALL_STATE with the new and the
prior state to the APT, ROUTINE for DIALING, URGENT for ALERTING. Other contexts and every other block but the
queues are as they were; the sleep unit is told. (Response octets: log 6.) -/
def Obligations.DialAndIncomingTakeAContext : Prop :=
  ∀ s tag i n, s.ready → (s.sub i).state = .camped ∨ (s.sub i).state = .switching → ctxCount s i < 2 →
    (∃ c, s.ctx n = some c ∧ c.state = .idle) → (∀ m c, m < n → s.ctx m = some c → c.state ≠ .idle) →
    (∀ body sub d, body.length ≤ 248 → bodyDial body = some (sub, d) → subOf sub = some i → 1 ≤ d.length →
      digitsOk 32 d = true → inCall s i.other = false →
      ∃ u, exec (.callDial .apt tag body) s = .next (answered .apt tag .ok
          (lit (oct8 n ++ octHt (addTicks s.tlu.ht s.cct.setupLimit))) (runEval u)) ∧
        u.ctx n = some {
            state := .dialing
            sub := some i
            direction := some .mo
            digits := some d
            reference := none
            audio := false
            cause := none
            started := some s.tlu.ht
            connected := none
            timer := some (addTicks s.tlu.ht s.cct.setupLimit) } ∧
        s.sameCtxsBut n u ∧
        u = { s with cct := { s.cct with ctxs := u.cct.ctxs }, ports := u.ports, evalDue := true, evalWake := true } ∧
        (∀ c, u.ctx n = some c → u.unit .apt = (s.unit .apt).enqueue (s.callState n .idle c 0 0)) ∧
        ∀ q, (s.sub i).bound = some q → u.unit (portOf q) = (s.unit (portOf q)).enqueue
          {
              kind := .callRequest
              urgent := true
              sub := some i
              subject := some n
              cause := 0
              stamp := s.tlu.ht
              detail := oct8 d.length }) ∧
    (∀ q body sub r d, body.length ≤ 248 → bodyIncoming body = some (sub, r, d) → subOf sub = some i →
      (s.sub i).bound = some q → digitsOk 32 d = true → referenceHeld s i r = false →
      ∃ u, exec (.callIncoming (portOf q) tag body) s =
          .next (answered (portOf q) tag .ok (lit (oct8 n)) (runEval u)) ∧
        u.ctx n = some {
            state := .alerting
            sub := some i
            direction := some .mt
            digits := if d = [] then none else some d
            reference := some r
            audio := false
            cause := none
            started := some s.tlu.ht
            connected := none
            timer := none } ∧
        s.sameCtxsBut n u ∧
        u = { s with cct := { s.cct with ctxs := u.cct.ctxs }, ports := u.ports, evalDue := true, evalWake := true } ∧
        (∀ c, u.ctx n = some c → u.unit .apt = (s.unit .apt).enqueue (s.callState n .idle c 0 0)) ∧
        ∀ p, p ≠ .apt → u.unit p = s.unit p)


/-- From the APT, on a context n of subscription i bound to port q: CALL_ANSWER of an ALERTING MT context with the other
subscription not in call queues CALL_ANSWER_REQ (URGENT); CALL_HOLD of a CONNECTED one CALL_HOLD_REQ (ROUTINE);
CALL_RESUME of a HELD one CALL_RESUME_REQ (ROUTINE); each with the context and its stack reference, at q. The
response is OK with an empty body and nothing else changes. In another context state each is refused CALL_STATE.
From the APT on context n of a subscription: a context that is neither IDLE nor RELEASING becomes RELEASING with
cause USER_HANGUP and expiry HT + release limit, loses the audio path if it was CONNECTED and held it, and
CALL_RELEASE_REQ (URGENT, cause 12) arrives at the bound port and CALL_STATE with that cause at the APT; other
contexts, the subscriptions, the calendar, the grant unit and the text store are as they were. A RELEASING one
answers its expiry (response octets: log 6) and changes nothing. An IDLE one is refused CALL_STATE. -/
def Obligations.CallRequestsOfTheApplication : Prop :=
  (∀ s tag i q (n : Octet) c, s.ready → s.ctx n.toNat = some c → c.sub = some i → (s.sub i).bound = some q →
      (c.state = .alerting → c.direction = some .mt → inCall s i.other = false →
        exec (.callAnswer .apt tag [n]) s = .next (answered .apt tag .ok [] (s.modUnit (portOf q) (fun u => u.enqueue
          {
              kind := .callAnswerReq
              urgent := true
              sub := some i
              subject := some n.toNat
              cause := 0
              stamp := s.tlu.ht
              detail := referenceDetail c })))) ∧
      (c.state = .connected →
        exec (.callHold .apt tag [n]) s = .next (answered .apt tag .ok [] (s.modUnit (portOf q) (fun u => u.enqueue
          {
              kind := .callHoldReq
              urgent := false
              sub := some i
              subject := some n.toNat
              cause := 0
              stamp := s.tlu.ht
              detail := referenceDetail c })))) ∧
      (c.state = .held →
        exec (.callResume .apt tag [n]) s = .next (answered .apt tag .ok [] (s.modUnit (portOf q) (fun u => u.enqueue
          {
              kind := .callResumeReq
              urgent := false
              sub := some i
              subject := some n.toNat
              cause := 0
              stamp := s.tlu.ht
              detail := referenceDetail c })))) ∧
      (c.state ≠ .alerting → exec (.callAnswer .apt tag [n]) s = .next (refusedWith .apt 23 tag .callState s)) ∧
      (c.state ≠ .connected → exec (.callHold .apt tag [n]) s = .next (refusedWith .apt 24 tag .callState s)) ∧
      (c.state ≠ .held → exec (.callResume .apt tag [n]) s = .next (refusedWith .apt 25 tag .callState s)) ∧
      ∀ r, c.reference = some r → referenceDetail c = oct8 1 ++ oct16 r) ∧
  (∀ s tag i (n : Octet) c, s.ready → s.ctx n.toNat = some c → c.sub = some i →
      (c.state ≠ .idle → c.state ≠ .releasing →
        ∃ u, exec (.callHangup .apt tag [n]) s = .next (answered .apt tag .ok
            (lit (octHt (addTicks s.tlu.ht s.cct.releaseLimit))) (runEval u)) ∧
          u.ctx n.toNat = some { c with
              state := .releasing
              timer := some (addTicks s.tlu.ht s.cct.releaseLimit)
              cause := some { cause := .userHangup, stack := 0 }
              audio := if c.state = .connected then false else c.audio } ∧
          s.sameCtxsBut n.toNat u ∧ u.cct.hold = s.cct.hold ∧
          u.cct.audioSel = (if c.state = .connected ∧ c.audio = true then none else s.cct.audioSel) ∧
          u = { s with cct := u.cct, ports := u.ports, evalDue := true, evalWake := true } ∧
          (∀ y, u.ctx n.toNat = some y → u.unit .apt = (s.unit .apt).enqueue (s.callState n.toNat c.state y 12 0)) ∧
          ∀ q, (s.sub i).bound = some q → u.unit (portOf q) = (s.unit (portOf q)).enqueue
            {
                kind := .callReleaseReq
                urgent := true
                sub := some i
                subject := some n.toNat
                cause := 12
                stamp := s.tlu.ht
                detail := referenceDetail c }) ∧
      (c.state = .releasing → ∀ e, c.timer = some e →
        exec (.callHangup .apt tag [n]) s = .next (answered .apt tag .ok (lit (octHt e)) s)) ∧
      (c.state = .idle → exec (.callHangup .apt tag [n]) s = .next (refusedWith .apt 26 tag .callState s)))

/-- From the bound port, without a reference, on context n of subscription i (stage codes 0 to 4: log 8; the response:
logs 6 and 35): SETUP on DIALING, ALERTING on SETUP, HELD on CONNECTED, and RESUMED on HELD with no other context of
the line CONNECTED, give the new state with no timer. CONNECTED on SETUP or ALERTING, with no other context of the
line CONNECTED, the other line not in call and without a class-3 hold, gives CONNECTED with connected HT now; it
takes the audio path when no context has it, as RESUMED does. HELD gives the audio path up. Each sends CALL_STATE
with the new and the prior state to the APT, no cause. Unless the line becomes in call over a grant that R76 pre-
empts, other contexts and every other block but the queues are as they were. CONNECTED that makes the line in call,
with a grant of the other line that is neither PAGE nor of class 3 and no subscription at its miss limit: the grant
is ended with TRX_SEL none, OCC_ENDED with cause PREEMPTED (8) arrives at its bound port, its slot's late mark is
set and its record leaves or waits one period later. Another context CONNECTED refuses CONNECTED and RESUMED with
CALL_STATE. From the bound port, without a reference, on a SETUP or ALERTING context with no other context of its
line CONNECTED. With the other subscription in call: the report is answered OK with RELEASING and OTHER_LINE_ACTIVE
(13), the context is RELEASING with that cause and expiry HT + release limit, CALL_RELEASE_REQ arrives at the port,
CALL_STATE with that cause at the APT, and other contexts and every block but the queues are as they were. With the
other subscription not in call but holding a class-3 hold: refused OTHER_LINE_ACTIVE. -/
def Obligations.ProgressMovesTheContext : Prop :=
  (∀ s tag i q (n st cs r0 r1 : Octet) c, s.ready → s.ctx n.toNat = some c → c.sub = some i →
      (s.sub i).bound = some q →
      (∀ old new, (st.toNat, old, new) ∈ [(0, CtxState.dialing, CtxState.setup), (1, .setup, .alerting),
          (2, .setup, .connected), (2, .alerting, .connected), (3, .connected, .held), (4, .held, .connected)] →
        c.state = old → (new = .connected → otherConnected s n.toNat i = false) →
        (st.toNat = 2 → inCall s i.other = false ∧ s.cct.hold.get i.other = false) →
        ∃ u, exec (.callProgress (portOf q) tag [n, st, cs, 0, r0, r1]) s =
            .next (answered (portOf q) tag .ok (lit (oct8 new.code)) (runEval u)) ∧
          u.ctx n.toNat = some { c with
              state := new
              timer := none
              connected := if st.toNat = 2 then some s.tlu.ht else c.connected
              audio := if new = .connected then c.audio || !s.cct.ctxs.any (fun x => x.audio) else if old = .connected then false else c.audio } ∧
          (new = .connected → (∀ x ∈ s.cct.ctxs, x.audio = false) → u.cct.audioSel = some q) ∧
          (old = .connected → c.audio = true → u.cct.audioSel = none) ∧
          ((st.toNat = 2 → inCall s i = true ∨ ∀ g o, s.tgu.grant = some g → s.occ (g.handle % 64) = some o →
              g.sub = i ∨ o.kind = .page ∨ 3 ≤ g.cls) →
            s.sameCtxsBut n.toNat u ∧ u.cct.hold = s.cct.hold ∧
            u = { s with cct := u.cct, ports := u.ports, evalDue := true, evalWake := true } ∧
            (∀ y, u.ctx n.toNat = some y → u.unit .apt = (s.unit .apt).enqueue (s.callState n.toNat old y 0 0)) ∧
            ∀ p, p ≠ .apt → u.unit p = s.unit p) ∧
          (∀ g o, st.toNat = 2 → inCall s i = false → s.belowMissLimit → s.tgu.grant = some g →
            s.occ (g.handle % 64) = some o → g.sub = i.other → o.sub = i.other → o.kind ≠ .page → g.cls < 3 →
            u.tgu = { s.tgu with grant := none } ∧ u.pins.trxSel = none ∧ s.sameCtxsBut n.toNat u ∧ u.sbt = s.sbt ∧
            u.cwu = s.cwu ∧ u.txs = s.txs ∧ u.tlu = s.tlu ∧ s.sameSlotsBut (g.handle % 64) u ∧
            (o.period = 0 ∨ o.remaining = 1 → u.occ (g.handle % 64) = none ∧ lateAt u (g.handle % 64) = true) ∧
            (o.period ≠ 0 → o.remaining ≠ 1 → s.anchor o.sub = some o.placement → lateAt u (g.handle % 64) = true ∧
              ∃ x, u.occ (g.handle % 64) = some x ∧ x.state = .waiting ∧
                x.start = addTicks o.start (o.stagedPeriod.getD o.period * 320)) ∧
            (∀ y, u.ctx n.toNat = some y → u.unit .apt = (s.unit .apt).enqueue (s.callState n.toNat old y 0 0)) ∧
            ∀ p, (s.sub i.other).bound = some p → (o.period ≠ 0 → s.anchor o.sub = some o.placement) →
              u.unit (portOf p) = (s.unit (portOf p)).enqueue {
                  kind := .occEnded
                  urgent := false
                  sub := some i.other
                  subject := some (handleAt s (g.handle % 64))
                  cause := 8
                  stamp := s.tlu.ht
                  detail := oct8 o.kind.code ++ octHt o.start })) ∧
      (otherConnected s n.toNat i = true → (st.toNat = 2 ∧ (c.state = .setup ∨ c.state = .alerting)) ∨
          (st.toNat = 4 ∧ c.state = .held) →
        exec (.callProgress (portOf q) tag [n, st, cs, 0, r0, r1]) s =
          .next (refusedWith (portOf q) 28 tag .callState s))) ∧
  (∀ s tag i q (n cs r0 r1 : Octet) c, s.ready → s.ctx n.toNat = some c → c.sub = some i →
      (s.sub i).bound = some q → c.state = .setup ∨ c.state = .alerting → otherConnected s n.toNat i = false →
      (inCall s i.other = true →
        ∃ u, exec (.callProgress (portOf q) tag [n, 2, cs, 0, r0, r1]) s =
            .next (answered (portOf q) tag .ok (lit [6, 13]) (runEval u)) ∧
          u.ctx n.toNat = some { c with
              state := .releasing
              timer := some (addTicks s.tlu.ht s.cct.releaseLimit)
              cause := some { cause := .otherLineActive, stack := 0 } } ∧
          s.sameCtxsBut n.toNat u ∧
          u = { s with cct := { s.cct with ctxs := u.cct.ctxs }, ports := u.ports, evalDue := true, evalWake := true } ∧
          (∀ y, u.ctx n.toNat = some y → u.unit .apt = (s.unit .apt).enqueue (s.callState n.toNat c.state y 13 0)) ∧
          u.unit (portOf q) = (s.unit (portOf q)).enqueue
            {
                kind := .callReleaseReq
                urgent := true
                sub := some i
                subject := some n.toNat
                cause := 13
                stamp := s.tlu.ht
                detail := referenceDetail c }) ∧
      (inCall s i.other = false → s.cct.hold.get i.other = true →
        exec (.callProgress (portOf q) tag [n, 2, cs, 0, r0, r1]) s =
          .next (refusedWith (portOf q) 28 tag .otherLineActive s)))

/-- On context n of subscription i, with no subscription at its miss limit: RELEASED from the bound port on a context
that is not IDLE (cause NETWORK with the stack's value), SETUP_EXPIRY of a DIALING one whose timer has come
(NO_STACK_ANSWER) and RELEASE_EXPIRY of a RELEASING one whose timer has come (RELEASE_TIMEOUT) make it IDLE with
that cause and no timer, and send CALL_STATE with the prior state, the cause code and the stack's value (0 but for
NETWORK) to the APT. The bound port has OCC_ENDED with cause CALL_ENDED (9) for each record linked to the context,
in calendar order, and after them at SETUP_EXPIRY one URGENT CALL_RELEASE_REQ with cause NO_STACK_ANSWER (14) and
the reference octets (log 22). No TRAFFIC or ACCESS record linked to the context is left; a record not linked to it
is as it was. Other contexts and the subscriptions are as they were. A timer still to come does nothing (log 1;
stage code RELEASED 5: log 8). -/
def Obligations.EndedContextIsIdleAndItsRecordsAreRemoved : Prop :=
  ∀ s tag i q (n cs r0 r1 : Octet) c, s.ready → s.ctx n.toNat = some c → c.sub = some i →
    (s.sub i).bound = some q → s.belowMissLimit →
    (∀ r out, (r = { cause := .network, stack := cs.toNat } ∧ c.state ≠ .idle ∧
          out = exec (.callProgress (portOf q) tag [n, 5, cs, 0, r0, r1]) s) ∨
        (r = { cause := .noStackAnswer, stack := 0 } ∧ c.state = .dialing ∧ expired c.timer s.tlu.ht = true ∧
          out = exec (.setupExpiry n.toNat) s) ∨
        (r = { cause := .releaseTimeout, stack := 0 } ∧ c.state = .releasing ∧ expired c.timer s.tlu.ht = true ∧
          out = exec (.releaseExpiry n.toNat) s) →
      ∃ t, out = .next t ∧
        t.ctx n.toNat = some { c with
            state := .idle
            timer := none
            cause := some r
            audio := if c.state = .connected then false else c.audio } ∧
        (∀ y, t.ctx n.toNat = some y →
          (s.unit .apt).got [s.callState n.toNat c.state y r.cause.code r.stack] (t.unit .apt)) ∧
        (s.linksHold → (s.unit (portOf q)).got (s.endedOf 9 (slotsWhere (linkedToCall n.toNat) s) ++
          (if r.cause = .noStackAnswer then [{
              kind := .callReleaseReq
              urgent := true
              sub := some i
              subject := some n.toNat
              cause := 14
              stamp := s.tlu.ht
              detail := referenceDetail c }] else []))
          (t.unit (portOf q))) ∧
        s.sameCtxsBut n.toNat t ∧ t.sbt = s.sbt ∧ t.cwu = s.cwu ∧ t.txs = s.txs ∧ t.tlu.ht = s.tlu.ht ∧
        (∀ m o, t.occ m = some o → linkedToCall n.toNat o = false) ∧
        (∀ m o, s.occ m = some o → linkedToCall n.toNat o = false → t.occ m = some o)) ∧
    (expired c.timer s.tlu.ht = false →
      exec (.setupExpiry n.toNat) s = .next s ∧ exec (.releaseExpiry n.toNat) s = .next s)

/-- From the bound port, not DETACHED, operands in range, b the lowest free buffer. With total 1 and room in the inbox:
the message is in the inbox under the lowest free id with the payload in b. With total above 1, no entry of its key
and e the lowest FREE entry: e is ASSEMBLING with this one segment in b and expires HT + timeout. With an entry of
its key: another total is refused TOTAL_MISMATCH; a sequence held answers DUPLICATE_SEGMENT and changes nothing; a
new sequence that leaves another missing is added in ascending order, the first originator kept, the last arrival HT
and the expiry HT + timeout; the last missing sequence, with room in the inbox, frees the entry and adds the message
to the inbox, and with 16 messages there leaves the entry COMPLETE. A message that enters the inbox queues
TEXT_ARRIVED at the APT; nothing else changes, no other queue. (Response octets: logs 6, 7 and 28.) -/
def Obligations.SegmentsGatherInAnEntry : Prop :=
  ∀ s tag i q body o b (arrived : InMsg → Event), s.ready → body.length ≤ 248 → bodySegment body = some o → subOf o.sub = some i →
    (s.sub i).bound = some q → (s.sub i).state ≠ .detached → 1 ≤ o.sequence → o.sequence ≤ o.total → o.total ≤ 16 →
    1 ≤ o.payload.length → o.payload.length ≤ 140 → digitsOk 20 o.originator = true →
    freeBuffer s.txs.pool = some b →
    (∀ m : InMsg, arrived m = {
        kind := EventKind.textArrived
        urgent := false
        sub := some m.sub
        subject := some (freeInboxId s.txs.inbox)
        cause := 0
        stamp := s.tlu.ht
        detail := oct8 m.reference ++ oct8 m.segs.length ++ oct8 m.total ++ [0] ++ octFlag m.originator.isSome }) →
    (∀ m, o.total = 1 → s.txs.inbox.length < 16 → m = newMessage i o b →
      exec (.textSegmentIn (portOf q) tag body) s = .next (answered (portOf q) tag .ok
        (lit (oct8 0 ++ oct8 (freeInboxId s.txs.inbox)) ++ optional 1 none)
        (State.modUnit { s with
            txs := { s.txs with
                pool := s.txs.pool.set b (some o.payload)
                inbox := s.txs.inbox ++ [{
                    id := freeInboxId s.txs.inbox
                    msg := m
                    isPartial := false
                    missing := []
                    done := s.tlu.ht }] } } .apt (fun x => x.enqueue (arrived m))))) ∧
    newMessage i o b = {
        sub := i
        reference := o.reference
        total := o.total
        segs := [{ seq := o.sequence, buffer := b }]
        originator := if o.originator = [] then none else some o.originator } ∧
    (∀ e, 1 < o.total → matchEntry i o.reference s.txs.entries = none → freeEntry s.txs.entries = some e →
      exec (.textSegmentIn (portOf q) tag body) s = .next (answered (portOf q) tag .ok
        (lit (oct8 e ++ oct8 1 ++ oct8 o.total) ++ optional 1 none) { s with
            txs := { s.txs with
                pool := s.txs.pool.set b (some o.payload)
                entries := s.txs.entries.set e (.assembling (newMessage i o b) s.tlu.ht (addTicks s.tlu.ht s.txs.timeout)) } })) ∧
    (∀ e m la x, 1 < o.total → matchEntry i o.reference s.txs.entries = some e →
      s.txs.entries[e]? = some (.assembling m la x) →
      (o.total ≠ m.total → exec (.textSegmentIn (portOf q) tag body) s = .next (answered (portOf q) tag .totalMismatch
        (lit (oct8 m.total)) (latchRefusal (portOf q) 31 tag .totalMismatch s))) ∧
      (o.total = m.total → (∃ g ∈ m.segs, g.seq = o.sequence) →
        exec (.textSegmentIn (portOf q) tag body) s = .next (answered (portOf q) tag .duplicateSegment
          (lit (oct8 e ++ oct8 m.segs.length ++ oct8 m.total) ++ optional 2 none) s)) ∧
      (o.total = m.total → (∀ g ∈ m.segs, g.seq ≠ o.sequence) → m.segs.Pairwise (fun g h => g.seq < h.seq) →
        ∃ l m1, l.Pairwise (fun g h => g.seq < h.seq) ∧ l.Perm ({ seq := o.sequence, buffer := b } :: m.segs) ∧
          m1 = { m with
              segs := l
              originator := m.originator.or (if o.originator = [] then none else some o.originator) } ∧
          (m.segs.length + 1 ≠ m.total → exec (.textSegmentIn (portOf q) tag body) s = .next (answered (portOf q) tag .ok
            (lit (oct8 e ++ oct8 (m.segs.length + 1) ++ oct8 m.total) ++ optional 2 none) { s with
                txs := { s.txs with
                    pool := s.txs.pool.set b (some o.payload)
                    entries := s.txs.entries.set e (.assembling m1 s.tlu.ht (addTicks s.tlu.ht s.txs.timeout)) } })) ∧
          (m.segs.length + 1 = m.total → s.txs.inbox.length < 16 →
            exec (.textSegmentIn (portOf q) tag body) s = .next (answered (portOf q) tag .ok
              (lit (oct8 e ++ oct8 m.total ++ oct8 m.total) ++ optional 2 (some (oct8 0 ++ oct8 (freeInboxId s.txs.inbox))))
              (State.modUnit { s with
                  txs := { s.txs with
                      pool := s.txs.pool.set b (some o.payload)
                      entries := s.txs.entries.set e .free
                      inbox := s.txs.inbox ++ [{
                          id := freeInboxId s.txs.inbox
                          msg := m1
                          isPartial := false
                          missing := []
                          done := s.tlu.ht }] } } .apt (fun y => y.enqueue (arrived m1))))) ∧
          (m.segs.length + 1 = m.total → 16 ≤ s.txs.inbox.length →
            exec (.textSegmentIn (portOf q) tag body) s = .next (answered (portOf q) tag .ok
              (lit (oct8 e ++ oct8 m.total ++ oct8 m.total) ++ optional 2 (some (oct8 1 ++ oct8 e)))
              { s with
                  txs := { s.txs with
                      pool := s.txs.pool.set b (some o.payload)
                      entries := s.txs.entries.set e (.complete m1 false [] s.tlu.ht) } }))))

/-- TEXT_SEGMENT_IN from the bound port, not DETACHED, operands in range. With no buffer free: a segment with total 1,
one of no entry's key, and one of an entry's key with its total and a new sequence are refused STORE_FULL. With a
buffer free and total above 1, no entry of its key, or total 1 and the inbox at 16 messages: with entry e the lowest
FREE, a whole message waits there as COMPLETE; with none FREE and e the ASSEMBLING entry whose last arrival is
before every other's, e is evicted (its buffers are free, TEXT_DISCARDED with cause EVICTED (19) arrives at the APT)
and takes the segment in the lowest buffer free then, ASSEMBLING and expiring HT + timeout, or COMPLETE for a whole
message; with all entries COMPLETE it is refused STORE_FULL. Nothing else changes. (Response octets: logs 6, 7 and
28.) -/
def Obligations.FullStoreEvictsWaitsOrRefuses : Prop :=
  ∀ s tag i q body o, s.ready → body.length ≤ 248 → bodySegment body = some o → subOf o.sub = some i →
    (s.sub i).bound = some q → (s.sub i).state ≠ .detached → 1 ≤ o.sequence → o.sequence ≤ o.total → o.total ≤ 16 →
    1 ≤ o.payload.length → o.payload.length ≤ 140 → digitsOk 20 o.originator = true →
    (freeBuffer s.txs.pool = none → (o.total = 1 ∨ matchEntry i o.reference s.txs.entries = none ∨
        ∃ e m la x, matchEntry i o.reference s.txs.entries = some e ∧ s.txs.entries[e]? = some (.assembling m la x) ∧
          o.total = m.total ∧ ∀ g ∈ m.segs, g.seq ≠ o.sequence) →
      exec (.textSegmentIn (portOf q) tag body) s = .next (refusedWith (portOf q) 31 tag .storeFull s)) ∧
    (freeBuffer s.txs.pool ≠ none →
      (o.total = 1 ∧ 16 ≤ s.txs.inbox.length) ∨ (1 < o.total ∧ matchEntry i o.reference s.txs.entries = none) →
      (∀ e b, o.total = 1 → freeEntry s.txs.entries = some e → freeBuffer s.txs.pool = some b →
        exec (.textSegmentIn (portOf q) tag body) s = .next (answered (portOf q) tag .ok
          (lit (oct8 1 ++ oct8 e) ++ optional 1 none) { s with
              txs := { s.txs with
                  pool := s.txs.pool.set b (some o.payload)
                  entries := s.txs.entries.set e (.complete (newMessage i o b) false [] s.tlu.ht) } })) ∧
      (∀ e m la x, freeEntry s.txs.entries = none → s.txs.entries[e]? = some (.assembling m la x) →
        (∀ j m' la' x', j ≠ e → s.txs.entries[j]? = some (.assembling m' la' x') →
          before la la' = true ∧ before la' la = false) →
        ∃ b pool, pool.length = s.txs.pool.length ∧
          (∀ g ∈ m.segs, g.buffer < s.txs.pool.length → pool[g.buffer]? = some none) ∧
          (∀ k, (∀ g ∈ m.segs, g.buffer ≠ k) → pool[k]? = s.txs.pool[k]?) ∧ freeBuffer pool = some b ∧
          exec (.textSegmentIn (portOf q) tag body) s = .next (answered (portOf q) tag .ok
            (if o.total = 1 then lit (oct8 1 ++ oct8 e) ++ optional 1 (some (oct8 e))
              else lit (oct8 e ++ oct8 1 ++ oct8 o.total) ++ optional 1 (some (oct8 e)))
            (State.modUnit { s with
                txs := { s.txs with
                    pool := pool.set b (some o.payload)
                    entries := s.txs.entries.set e (if o.total = 1 then .complete (newMessage i o b) false [] s.tlu.ht else .assembling (newMessage i o b) s.tlu.ht (addTicks s.tlu.ht s.txs.timeout)) } } .apt
              (fun y => y.enqueue {
                  kind := .textDiscarded
                  urgent := false
                  sub := some m.sub
                  subject := some e
                  cause := 19
                  stamp := s.tlu.ht
                  detail := oct8 m.reference ++ oct8 m.segs.length ++ oct8 m.total })))) ∧
      ((∀ x ∈ s.txs.entries, x.isComplete = true) →
        exec (.textSegmentIn (portOf q) tag body) s = .next (refusedWith (portOf q) 31 tag .storeFull s)))

/-- When the expiry of an ASSEMBLING entry has come. With partial delivery on and room in the inbox: the entry is FREE,
the message is in the inbox, marked partial, with the missing sequences, and TEXT_ARRIVED arrives at the APT; with
the inbox full the entry is COMPLETE and waits. With partial delivery off: the entry is FREE, its buffers are free,
and TEXT_DISCARDED with cause TIMEOUT (20) arrives at the APT. Nothing else changes, no other queue. Before the
expiry nothing happens (log 1). From the APT on the id of a held message (ids held once): the message is gone and
the other messages keep their order; its buffers are free and every other buffer is as it was. With no COMPLETE
entry nothing else changes; with some, the one with the earliest completion HT, the lowest index on a tie, becomes
FREE and its message is appended to the inbox, and TEXT_ARRIVED arrives at the APT, whose queue alone changes
(earliest by R3, for completion HTs less than 2^31 ticks after one HT; otherwise by the model's order, log 37). An
id that is not held is refused BAD_FIELD. (Response octets: logs 6, 7 and 28.) -/
def Obligations.ReassemblyTimeoutAndRelease : Prop :=
  (∀ s n m la e, s.ready → s.attentionFollows → s.txs.entries[n]? = some (.assembling m la e) →
      (passed e s.tlu.ht = true →
        (s.txs.partialOn = true → ∃ l, (∀ k, k ∈ l ↔ 1 ≤ k ∧ k ≤ m.total ∧ ∀ g ∈ m.segs, g.seq ≠ k) ∧
          l.Pairwise (fun x y => x < y) ∧
          (s.txs.inbox.length < 16 → exec (.reassemblyTimeout n) s = .next (driveAttention (State.modUnit
            { s with
                txs := { s.txs with
                    entries := s.txs.entries.set n .free
                    inbox := s.txs.inbox ++ [{
                        id := freeInboxId s.txs.inbox
                        msg := m
                        isPartial := true
                        missing := l
                        done := s.tlu.ht }] } } .apt (fun x => x.enqueue {
                            kind := .textArrived
                            urgent := false
                            sub := some m.sub
                            subject := some (freeInboxId s.txs.inbox)
                            cause := 0
                            stamp := s.tlu.ht
                            detail := oct8 m.reference ++ oct8 m.segs.length ++ oct8 m.total ++ [1] ++ octFlag m.originator.isSome })))) ∧
          (16 ≤ s.txs.inbox.length → exec (.reassemblyTimeout n) s = .next { s with
              txs := { s.txs with entries := s.txs.entries.set n (.complete m true l s.tlu.ht) } })) ∧
        (s.txs.partialOn = false → ∃ pool, pool.length = s.txs.pool.length ∧
          (∀ g ∈ m.segs, g.buffer < s.txs.pool.length → pool[g.buffer]? = some none) ∧
          (∀ k, (∀ g ∈ m.segs, g.buffer ≠ k) → pool[k]? = s.txs.pool[k]?) ∧
          exec (.reassemblyTimeout n) s = .next (driveAttention (State.modUnit
            { s with txs := { s.txs with entries := s.txs.entries.set n .free, pool := pool } } .apt
            (fun x => x.enqueue {
                kind := .textDiscarded
                urgent := false
                sub := some m.sub
                subject := some n
                cause := 20
                stamp := s.tlu.ht
                detail := oct8 m.reference ++ oct8 m.segs.length ++ oct8 m.total }))))) ∧
      (passed e s.tlu.ht = false → exec (.reassemblyTimeout n) s = .next s)) ∧
  (∀ s tag (id : Octet), s.ready →
      (∀ x ∈ s.txs.inbox, x.id = id.toNat → s.txs.inbox.Pairwise (fun y z => y.id ≠ z.id) →
        ∃ pool, pool.length = s.txs.pool.length ∧
          (∀ g ∈ x.msg.segs, g.buffer < s.txs.pool.length → pool[g.buffer]? = some none) ∧
          (∀ k, (∀ g ∈ x.msg.segs, g.buffer ≠ k) → pool[k]? = s.txs.pool[k]?) ∧
          ((∀ e ∈ s.txs.entries, e.isComplete = false) →
            exec (.textRelease .apt tag [id]) s = .next (answered .apt tag .ok
              (lit (oct8 x.msg.segs.length) ++ optional 1 none) { s with
                  txs := { s.txs with pool := pool, inbox := s.txs.inbox.filter (fun y => decide (y ≠ x)) } })) ∧
          (∀ n m p l d y, oldestComplete s.txs.entries = some (n, m, p, l, d) →
            y = {
                id := freeInboxId (s.txs.inbox.filter (fun z => decide (z ≠ x)))
                msg := m
                isPartial := p
                missing := l
                done := d } →
            exec (.textRelease .apt tag [id]) s = .next (answered .apt tag .ok
              (lit (oct8 x.msg.segs.length) ++ optional 1 (some (oct8 y.id))) (State.modUnit { s with
                  txs := { s.txs with
                      pool := pool
                      inbox := s.txs.inbox.filter (fun z => decide (z ≠ x)) ++ [y]
                      entries := s.txs.entries.set n .free } } .apt (fun u => u.enqueue {
                          kind := .textArrived
                          urgent := false
                          sub := some m.sub
                          subject := some y.id
                          cause := 0
                          stamp := s.tlu.ht
                          detail := oct8 m.reference ++ oct8 m.segs.length ++ oct8 m.total ++ octFlag p ++ octFlag m.originator.isSome }))))) ∧
      ((∀ x ∈ s.txs.inbox, x.id ≠ id.toNat) →
        exec (.textRelease .apt tag [id]) s = .next (refusedWith .apt 34 tag .badField s)) ∧
      ((∃ x ∈ s.txs.entries, x.isComplete = true) → ∃ x, oldestComplete s.txs.entries = some x) ∧
      ∀ n m p l d, oldestComplete s.txs.entries = some (n, m, p, l, d) → s.txs.entries[n]? = some (.complete m p l d) ∧
        ((∃ base : HT, ∀ (k : Nat) m' p' l' d', s.txs.entries[k]? = some (Reasm.complete m' p' l' d') → notBefore d' base = true) →
          ∀ (k : Nat) m' p' l' d', s.txs.entries[k]? = some (Reasm.complete m' p' l' d') → k ≠ n →
            before d d' = true ∨ (d' = d ∧ n < k)))

/-- From the APT. TEXT_COMPOSE with a destination of 1..20 symbols, count 1..16, persist 0 or 1, id the lowest FREE
record and the pool able to hold the segments: the record is COMPOSING with count unfilled PENDING segments over
free buffers, which are taken with no payload; other buffers and records are as they were. TEXT_FILL of sequence q
of a COMPOSING record, 1..140 octets: its buffer holds the payload and the segment is filled. TEXT_COMMIT of a
wholly filled one, CAMPED or SWITCHING, nothing STAGED: it takes the commit counter as serial, which counts up
modulo 65,536, and is SENDING in the empty ACTIVE slot, with TEXT_OUTBOUND (URGENT; serial, segment count, persist)
at the bound port alone, or STAGED with no event behind a held one. Nothing outside the text store and the queues
changes. (The state code in TEXT_COMMIT's response: log 35; its octets: log 6.) -/
def Obligations.ComposeFillAndCommitASend : Prop :=
  ∀ s tag, s.ready →
    (∀ body o i id, body.length ≤ 248 → bodyCompose body = some o → subOf o.sub = some i → 1 ≤ o.dest.length →
      digitsOk 20 o.dest = true → 1 ≤ o.count → o.count ≤ 16 → o.persist ≤ 1 → o.count ≤ freeCountOf s.txs.pool →
      heldBySends s + o.count ≤ 32 → freeSendId s = some id →
      ∃ (out : Out) (u : State) (bs : List Nat), exec (.textCompose .apt tag body) s = .next (answered .apt tag .ok out u) ∧
        bs.length = o.count ∧ bs.Pairwise (fun x y => x < y) ∧
        u.send id = some {
            state := .composing
            sub := i
            dest := o.dest
            persist := decide (o.persist = 1)
            serial := none
            segs := bs.map (fun x => { buffer := x, filled := false, outcome := .pending })
            result := none
            finishCause := none } ∧
        (∀ x ∈ bs, s.txs.pool[x]? = some none ∧ u.txs.pool[x]? = some (some [])) ∧
        (∀ x, x ∉ bs → u.txs.pool[x]? = s.txs.pool[x]?) ∧ s.sameSendsBut id u ∧
        u = { s with txs := { s.txs with pool := u.txs.pool, sends := u.txs.sends } }) ∧
    (∀ (id q : Octet) pay r g, id.toNat ≤ 3 → 1 ≤ q.toNat → q.toNat ≤ 16 → 1 ≤ pay.length → pay.length ≤ 140 →
      s.send id.toNat = some r → r.state = .composing → r.segs[q.toNat - 1]? = some g →
      ∃ out, exec (.textFill .apt tag (id :: q :: pay)) s = .next (answered .apt tag .ok out
        ((s.setSend id.toNat (some { r with segs := r.segs.set (q.toNat - 1) { g with filled := true } })).modTxs
          (fun t => { t with pool := t.pool.set g.buffer (some pay) })))) ∧
    (∀ (id : Octet) r, id.toNat ≤ 3 → s.send id.toNat = some r → r.state = .composing →
      (∀ g ∈ r.segs, g.filled = true) → (s.sub r.sub).state = .camped ∨ (s.sub r.sub).state = .switching →
      s.txs.staged.get r.sub = none →
      ∃ u, (s.txs.active.get r.sub = none → exec (.textCommit .apt tag [id]) s =
            .next (answered .apt tag .ok (lit (oct16 s.txs.commits ++ [3])) u) ∧
          u.send id.toNat = some { r with state := .sending, serial := some s.txs.commits } ∧
          u.txs.active = s.txs.active.set r.sub (some id.toNat) ∧ u.txs.staged = s.txs.staged ∧
          u.ports = (postBound r.sub (s.textOutbound id.toNat r s.txs.commits) s).ports) ∧
        ((s.txs.active.get r.sub).isSome = true → exec (.textCommit .apt tag [id]) s =
            .next (answered .apt tag .ok (lit (oct16 s.txs.commits ++ [2])) u) ∧
          u.send id.toNat = some { r with state := .staged, serial := some s.txs.commits } ∧
          u.txs.active = s.txs.active ∧ u.txs.staged = s.txs.staged.set r.sub (some id.toNat) ∧ u.ports = s.ports) ∧
        u.txs.commits = (s.txs.commits + 1) % 65536 ∧ s.sameSendsBut id.toNat u ∧ u.txs.pool = s.txs.pool ∧
        u = { s with txs := u.txs, ports := u.ports })

/-- From the APT, with no subscription at its miss limit, on record id 0..3 of subscription i. TEXT_ABANDON of a
COMPOSING, STAGED or SENDING record frees the record; a STAGED one leaves the STAGED slot and clears the waiting
flag; a SENDING one empties the ACTIVE slot, or hands it to a STAGED send of another id when the subscription is
CAMPED. TEXT_SEND_CLOSE of a KEPT record frees it and does the same with the ACTIVE slot. The buffers of the freed
record are free. An abandon in SENDING sends TEXT_SENT (result CANCELLED 3, cause USER_ABANDON 24, serial and the
counts) to the APT, and with no linked record TEXT_SEND_STOPPED (cause CANCELLED 21, serial) to the bound port; a
promotion then sends TEXT_OUTBOUND (URGENT) there, after a close too. COMPOSING and STAGED ones send no event, and a
close none to the APT. The subscriptions' states, the anchors, the cell watch and the calls are as they were.
TEXT_ABANDON of a KEPT record and TEXT_SEND_CLOSE of another state are refused SEND_STATE. -/
def Obligations.AbandonAndCloseFreeTheSend : Prop :=
  ∀ s tag (id : Octet) r, s.ready → s.belowMissLimit → id.toNat ≤ 3 → s.send id.toNat = some r →
    (∀ out, (r.state ≠ .kept ∧ out = exec (.textAbandon .apt tag [id]) s) ∨
        (r.state = .kept ∧ out = exec (.textSendClose .apt tag [id]) s) →
      ∃ t, out = .next t ∧ (s.txs.staged.get r.sub ≠ some id.toNat ∨ r.state = .staged → t.send id.toNat = none) ∧
        (∀ g ∈ r.segs, g.buffer < s.txs.pool.length → t.txs.pool[g.buffer]? = some none) ∧
        (r.state = .composing → t.txs.active = s.txs.active ∧ t.txs.staged = s.txs.staged ∧ t.sbt = s.sbt) ∧
        (r.state = .staged → t.txs.staged = s.txs.staged.set r.sub none ∧ t.txs.active = s.txs.active ∧
          (t.sub r.sub).stagedWaiting = false) ∧
        (r.state = .sending ∨ r.state = .kept → s.txs.staged.get r.sub = none →
          t.txs.active = s.txs.active.set r.sub none ∧ t.txs.staged = s.txs.staged) ∧
        (r.state = .sending ∨ r.state = .kept → ∀ j x, s.txs.staged.get r.sub = some j → j ≠ id.toNat →
          s.send j = some x →
          ((s.sub r.sub).state = .camped → t.txs.active.get r.sub = some j ∧ t.txs.staged.get r.sub = none ∧
            t.send j = some { x with state := .sending }) ∧
          ((s.sub r.sub).state ≠ .camped → t.txs.active.get r.sub = none ∧
            t.txs.staged.get r.sub = some j ∧ (t.sub r.sub).stagedWaiting = true)) ∧
        (∀ k, r.state = .sending → r.serial = some k → (s.unit .apt).got [{
            kind := .textSent
            urgent := false
            sub := some r.sub
            subject := some id.toNat
            cause := 24
            stamp := s.tlu.ht
            detail := oct8 3 ++ oct16 k ++ oct8 (countSegs r SegOutcome.isSent) ++ oct8 (countSegs r SegOutcome.isFailed) ++ oct8 (countSegs r SegOutcome.isSkipped) }] (t.unit .apt)) ∧
        (r.state ≠ .sending → (s.unit .apt).got [] (t.unit .apt)) ∧
        (r.state = .composing ∨ r.state = .staged → ∀ q, (s.unit q).got [] (t.unit q)) ∧
        (∀ q k stop out, (s.sub r.sub).bound = some q → r.serial = some k →
          (∀ m o, s.occ m = some o → linkedToSend id.toNat o = false) → s.txs.staged.get r.sub ≠ some id.toNat →
          (r.state = .sending ∧ stop = [{
              kind := .textSendStopped
              urgent := false
              sub := some r.sub
              subject := some id.toNat
              cause := 21
              stamp := s.tlu.ht
              detail := oct16 k }]) ∨
            (r.state = .kept ∧ stop = []) →
          (((s.txs.staged.get r.sub = none ∨ (s.sub r.sub).state ≠ .camped) ∧ out = []) ∨
            ((s.sub r.sub).state = .camped ∧ ∃ j x kx, s.txs.staged.get r.sub = some j ∧ s.send j = some x ∧
              x.sub = r.sub ∧ x.serial = some kx ∧ out = [s.textOutbound j x kx])) →
          (s.unit (portOf q)).got (stop ++ out) (t.unit (portOf q))) ∧
        (∀ i, (t.sub i).state = (s.sub i).state) ∧ t.tlu.anchor = s.tlu.anchor ∧ t.cwu = s.cwu ∧
        t.cct.ctxs = s.cct.ctxs) ∧
    (r.state = .kept → exec (.textAbandon .apt tag [id]) s = .next (refusedWith .apt 39 tag .sendState s)) ∧
    (r.state ≠ .kept → exec (.textSendClose .apt tag [id]) s = .next (refusedWith .apt 41 tag .sendState s))

/-- From the bound port, on a SENDING record id 0..3 and a segment q of it, without a serial (OK 0, FAIL 1: log 8;
response octets: logs 6, 7, 28 and 35). TEXT_TAKE of a PENDING or TAKEN segment answers the serial, destination,
count, q and the payload with its length, and makes the segment TAKEN; of another it is refused SEND_STATE.
TEXT_SEGMENT_RESULT of a TAKEN segment: OK makes it SENT, FAIL makes it FAILED with the stack's cause; a FAIL with
persist on, and an OK, leave the other segments; while a segment is still PENDING or TAKEN the send stays SENDING
and nothing else of the part changes. Of a segment that is not TAKEN it is refused SEND_STATE. -/
def Obligations.TakeAndResultMoveASegment : Prop :=
  ∀ s tag p (id q : Octet) a b r g, s.ready → p = portOf b → (s.sub r.sub).bound = some b → id.toNat ≤ 3 →
    1 ≤ q.toNat → q.toNat ≤ 16 → s.send id.toNat = some r → r.state = .sending → r.segs[q.toNat - 1]? = some g →
    (∀ n pay, r.serial = some n → s.txs.pool[g.buffer]? = some (some pay) → g.outcome = .pending ∨ g.outcome = .taken →
      exec (.textTake p tag [id, q, 0, a, a]) s = .next (answered p tag .ok
        (lit (oct16 n ++ oct8 r.dest.length ++ r.dest ++ oct8 r.segs.length ++ [q] ++ oct8 pay.length ++ pay))
        (s.setSend id.toNat (some { r with segs := r.segs.set (q.toNat - 1) { g with outcome := .taken } })))) ∧
    (g.outcome ≠ .pending → g.outcome ≠ .taken →
      exec (.textTake p tag [id, q, 0, a, a]) s = .next (refusedWith p 42 tag .sendState s)) ∧
    (∀ (v cs : Octet) out1 r1, g.outcome = .taken →
      (v = 0 ∧ out1 = SegOutcome.sent) ∨ (v = 1 ∧ r.persist = true ∧ out1 = SegOutcome.failed cs.toNat) →
      r1 = { r with segs := r.segs.set (q.toNat - 1) { g with outcome := out1 } } →
      (∃ h ∈ r1.segs, h.outcome = .pending ∨ h.outcome = .taken) →
      exec (.textSegmentResult p tag [id, q, v, cs, 0, a, a]) s = .next (answered p tag .ok
        (lit (oct8 out1.code ++ oct8 (countSegs r1 SegOutcome.isSent) ++ oct8 (countSegs r1 SegOutcome.isFailed)
          ++ oct8 (countSegs r1 SegOutcome.isSkipped) ++ oct8 (countSegs r1 SegOutcome.isOpen)) ++ optional 2 none)
        (s.setSend id.toNat (some r1)))) ∧
    (g.outcome ≠ .taken → ∀ v cs : Octet, v.toNat ≤ 1 →
      exec (.textSegmentResult p tag [id, q, v, cs, 0, a, a]) s = .next (refusedWith p 43 tag .sendState s))

/-- From the bound port, a TEXT_SEGMENT_RESULT on the TAKEN segment q of a SENDING record, with no subscription at its
miss limit and nothing STAGED on the line (OK 0, FAIL 1: log 8; response octets: logs 6, 7, 28 and 35). With no
other segment open: OK and all SENT frees the record and its buffers and empties the ACTIVE slot; OK with a FAILED
segment, and FAIL with a SENT one, both with persist on, leave it KEPT with result PARTIAL; FAIL with persist on and
none SENT, with result FAILED. FAIL with persist off: every other PENDING or TAKEN segment is SKIPPED and the record
KEPT with result FAILED. A KEPT record has finish cause SEGMENT_FAILED (23) and keeps slot and buffers. No TEXT
record linked to the send is left, each OCC_ENDED with cause SEND_FINISHED (10) at its bound port (stated for one);
other records stay. TEXT_SENT with the result, serial and counts arrives at the APT. The calls, cell watch and
subscriptions are as they were. -/
def Obligations.LastResultFinishesTheSend : Prop :=
  ∀ s tag p (id q v cs : Octet) a b r g n segs res, s.ready → p = portOf b → (s.sub r.sub).bound = some b →
    id.toNat ≤ 3 → 1 ≤ q.toNat → q.toNat ≤ 16 → s.send id.toNat = some r → r.state = .sending → r.serial = some n →
    r.segs[q.toNat - 1]? = some g → g.outcome = .taken → s.belowMissLimit → s.txs.staged.get r.sub = none →
    (v = 0 ∧ segs = r.segs.set (q.toNat - 1) { g with outcome := .sent } ∧
        (∀ h ∈ segs, h.outcome ≠ .pending ∧ h.outcome ≠ .taken) ∧
        ((res = SendResult.ok ∧ ∀ h ∈ segs, h.outcome = .sent) ∨
          (res = .partialSent ∧ r.persist = true ∧ ∃ h ∈ segs, ∃ x, h.outcome = .failed x))) ∨
      (v = 1 ∧ r.persist = true ∧ segs = r.segs.set (q.toNat - 1) { g with outcome := .failed cs.toNat } ∧
        (∀ h ∈ segs, h.outcome ≠ .pending ∧ h.outcome ≠ .taken) ∧
        ((res = .partialSent ∧ ∃ h ∈ segs, h.outcome = .sent) ∨ (res = .failed ∧ ∀ h ∈ segs, h.outcome ≠ .sent))) ∨
      (v = 1 ∧ r.persist = false ∧ res = .failed ∧
        segs = (r.segs.set (q.toNat - 1) { g with outcome := .failed cs.toNat }).map (fun h =>
          if h.outcome = .pending ∨ h.outcome = .taken then { h with outcome := .skipped } else h)) →
    ∃ u, exec (.textSegmentResult p tag [id, q, v, cs, 0, a, a]) s = .next (answered p tag .ok
        (lit ((if v = 0 then oct8 2 else oct8 3) ++ oct8 (segs.countP (fun h => h.outcome.isSent))
            ++ oct8 (segs.countP (fun h => h.outcome.isFailed)) ++ oct8 (segs.countP (fun h => h.outcome.isSkipped))
            ++ oct8 0) ++ optional 2 (some (oct8 res.code ++ (if res = .ok then oct8 0 else oct8 4)))) (runEval u)) ∧
      (res = .ok → u.send id.toNat = none ∧ u.txs.active = s.txs.active.set r.sub none ∧
        (∀ h ∈ r.segs, h.buffer < s.txs.pool.length → u.txs.pool[h.buffer]? = some none) ∧
        ∀ k, (∀ h ∈ r.segs, h.buffer ≠ k) → u.txs.pool[k]? = s.txs.pool[k]?) ∧
      (res ≠ .ok → u.txs.active = s.txs.active ∧ u.txs.pool = s.txs.pool ∧ u.send id.toNat = some { r with
          segs := segs
          state := .kept
          result := some res
          finishCause := some .segmentFailed }) ∧
      u.unit .apt = (s.unit .apt).enqueue {
          kind := .textSent
          urgent := false
          sub := some r.sub
          subject := some id.toNat
          cause := if res = .ok then 0 else 23
          stamp := s.tlu.ht
          detail := oct8 res.code ++ oct16 n ++ oct8 (segs.countP (fun h => h.outcome.isSent)) ++ oct8 (segs.countP (fun h => h.outcome.isFailed)) ++ oct8 (segs.countP (fun h => h.outcome.isSkipped)) } ∧
      (∀ m o, u.occ m = some o → ¬ (o.kind = .text ∧ o.sendLink = some id.toNat)) ∧
      (∀ m o, s.occ m = some o → ¬ (o.kind = .text ∧ o.sendLink = some id.toNat) → u.occ m = some o) ∧
      (slotsWhere (linkedToSend id.toNat) s = [] → u.ocl = s.ocl ∧ u.tgu = s.tgu ∧ u.pins = s.pins ∧
        ∀ y : StackPort, u.unit (portOf y) = s.unit (portOf y)) ∧
      (∀ m o y, slotsWhere (linkedToSend id.toNat) s = [m] → s.occ m = some o → (s.sub o.sub).bound = some y →
        u.unit (portOf y) = (s.unit (portOf y)).enqueue {
            kind := .occEnded
            urgent := false
            sub := some o.sub
            subject := some (handleAt s m)
            cause := 10
            stamp := s.tlu.ht
            detail := oct8 2 ++ octHt o.start }) ∧
      s.sameSendsBut id.toNat u ∧ u.sbt = s.sbt ∧ u.cwu = s.cwu ∧ u.cct.ctxs = s.cct.ctxs ∧ u.tlu = s.tlu

/-- On every port, out of reset: a code 0..2 makes STAY_AWAKE, DOZE_OK or DEEP_OK the port's vote; the others' are kept,
and so are all settings, the ratio and every block but the sleep unit, the count source and its lines. Evaluated in
AWAKE or DOZE: with some vote STAY_AWAKE the state is AWAKE; with none and some vote DOZE_OK it is DOZE; with all
three DEEP_OK it is DOZE or DEEP. A code above 2 and a vote equal to the one held change nothing. From the APT, out
of reset. SLEEP_CONFIG with presence octets 0 or 1: L is clamped to 1..64 slots (in ticks), U to 0..500 ppm, the
interval to 1..600 s (in ticks) and n to 10..15; absent fields keep the setting; the votes, ratio and fraction and
every block but the sleep unit, count source and lines are kept. (Two octets each for L, U and the interval: log 8.) -/
def Obligations.VotesAndSettingsAreKept : Prop :=
  (∀ s tag p (v : Octet), s.ready →
      (∀ x, voteOf v.toNat = some x → ∃ b u, exec (.sleepVote p tag [v]) s = .next (answered p tag .ok b u) ∧
        u.scu.votes = s.scu.votes.set p x ∧ u.scu.ratio = s.scu.ratio ∧ u.scu.acc = s.scu.acc ∧
        u.scu.lead = s.scu.lead ∧ u.scu.ppm = s.scu.ppm ∧ u.scu.interval = s.scu.interval ∧
        u.scu.winExp = s.scu.winExp ∧ u.tlu.ht = s.tlu.ht ∧ u.tlu.anchor = s.tlu.anchor ∧
        u = { s with tlu := u.tlu, scu := u.scu, pins := u.pins } ∧ u.pins.trxSel = s.pins.trxSel ∧
        (s.scu.votes.get p ≠ x → s.scu.sleep = .awake ∨ s.scu.sleep = .doze →
          ((∃ y, u.scu.votes.get y = .stayAwake) → u.scu.sleep = .awake) ∧
          ((∀ y, u.scu.votes.get y ≠ .stayAwake) → (∃ y, u.scu.votes.get y = .dozeOk) → u.scu.sleep = .doze) ∧
          ((∀ y, u.scu.votes.get y = .deepOk) → u.scu.sleep = .doze ∨ u.scu.sleep = .deep)) ∧
        (s.scu.votes.get p = x → u = s)) ∧
      (2 < v.toNat → ∃ b, exec (.sleepVote p tag [v]) s = .next (answered p tag .ok b s))) ∧
  (∀ s tag, s.ready →
      (∀ lp l0 l1 up u0 u1 ip i0 i1 np n : Octet, lp.toNat ≤ 1 → up.toNat ≤ 1 → ip.toNat ≤ 1 → np.toNat ≤ 1 → ∃ b u,
        exec (.sleepConfig .apt tag [lp, l0, l1, up, u0, u1, ip, i0, i1, np, n]) s =
          .next (answered .apt tag .ok b u) ∧
        u.scu.lead = (if lp = 1 then max 1 (min 64 (u16 l0 l1)) * 16 else s.scu.lead) ∧
        u.scu.ppm = (if up = 1 then min 500 (u16 u0 u1) else s.scu.ppm) ∧
        u.scu.interval = (if ip = 1 then max 1 (min 600 (u16 i0 i1)) * 32000 else s.scu.interval) ∧
        u.scu.winExp = (if np = 1 then max 10 (min 15 n.toNat) else s.scu.winExp) ∧
        u.scu.votes = s.scu.votes ∧ u.scu.ratio = s.scu.ratio ∧ u.scu.acc = s.scu.acc ∧ u.tlu.ht = s.tlu.ht ∧
        u = { s with tlu := u.tlu, scu := u.scu, pins := u.pins }))

/-- When an owed evaluation made in AWAKE or DOZE ends in DEEP: all votes are DEEP_OK, there is no grant, every context
is IDLE, the ratio is valid, no calibration is pending or running, and the reference was up. The plan then holds the
HT h0 of the entry; Tn, the eligible start (or h0 + 2^22 with none); the lead L; d = D - M, at least 160, where D =
Tn - L - h0 read as a signed value and M = ceil(D x U / 1,000,000); the wake point h0 + d; and n slow cycles such
that n x R + fraction is at most d x 2^24 and one more cycle would exceed it. The wake timer is n, the source SLOW,
REF_EN and TRX_PWR off. The other way: with every vote DEEP_OK, no grant, every context IDLE, the ratio valid, the
due flag clear, the calibration IDLE, the reference up and D - M at least 160, the evaluation ends in DEEP. The
eligible start is that of a WAITING record of a subscription that is not ABSENT, absent exactly when there is none;
and with every start within 2^20 ticks of HT (R43) no other such start is before it. -/
def Obligations.DeepIsEnteredOnlyWithAPlan : Prop :=
  (∀ s, s.evalDue = true → s.scu.sleep = .awake ∨ s.scu.sleep = .doze → s.ratioInRange →
    (runEval s).scu.sleep = .deep →
    (∀ p, s.scu.votes.get p = .deepOk) ∧ s.tgu.grant = none ∧ (∀ c ∈ s.cct.ctxs, c.state = .idle) ∧
    s.scu.valid = true ∧ s.scu.cal = .idle ∧ s.scu.refUp = true ∧
    ∃ w, (runEval s).scu.plan = some w ∧ w.h0 = s.tlu.ht ∧
      w.tn = (earliestEligible s).getD (addTicks s.tlu.ht 4194304) ∧ w.lead = s.scu.lead ∧ 160 ≤ w.d ∧
      (∃ D M : Nat, (w.tn - BitVec.ofNat 32 s.scu.lead - s.tlu.ht).toInt = (D : Int) ∧ D * s.scu.ppm ≤ M * 1000000 ∧
        M * 1000000 < D * s.scu.ppm + 1000000 ∧ w.d + M = D) ∧
      w.wp = addTicks s.tlu.ht w.d ∧ w.n * s.scu.ratio + s.scu.acc ≤ w.d * 16777216 ∧
      w.d * 16777216 < (w.n + 1) * s.scu.ratio + s.scu.acc ∧
      (runEval s).scu.wakeTimer = some w.n ∧ (runEval s).tlu.source = .slow ∧
      (runEval s).pins.refEn = false ∧ (runEval s).pins.trxPwr = false ∧ (runEval s).scu.refUp = false) ∧
  (∀ (s : State) (D : Nat), s.evalDue = true → s.scu.sleep = .awake ∨ s.scu.sleep = .doze →
    (∀ p, s.scu.votes.get p = .deepOk) → s.tgu.grant = none → (∀ c ∈ s.cct.ctxs, c.state = .idle) →
    s.scu.valid = true → s.scu.due = false → s.scu.cal = .idle → s.scu.refUp = true →
    ((earliestEligible s).getD (addTicks s.tlu.ht 4194304) - BitVec.ofNat 32 s.scu.lead - s.tlu.ht).toInt = (D : Int) →
    (∀ M : Nat, D * s.scu.ppm ≤ M * 1000000 → M * 1000000 < D * s.scu.ppm + 1000000 → M + 160 ≤ D) →
    (runEval s).scu.sleep = .deep) ∧
  ∀ s, (earliestEligible s = none ↔ ∀ n o, s.occ n = some o → o.state = .waiting → (s.sub o.sub).state = .absent) ∧
    ∀ t, earliestEligible s = some t →
      (∃ n o, s.occ n = some o ∧ o.state = .waiting ∧ (s.sub o.sub).state ≠ .absent ∧ o.start = t) ∧
      ((∀ n o, s.occ n = some o → (o.start - s.tlu.ht + 1048576).toNat ≤ 2097152) →
        ∀ n o, s.occ n = some o → o.state = .waiting → (s.sub o.sub).state ≠ .absent → before o.start t = false)


/-- Out of reset in DEEP. Whatever the command, with no subscription at its miss limit, DEEP is left only by
POWER_ON_RESET, PART_RESET or CALIBRATE; by SLEEP_VOTE that changes a vote, or PORT_RESET, with some vote then not
DEEP_OK; when the state of a context changes; when a WAITING record before Wp + L of the plan, of a subscription not
ABSENT, is new, moved or re-timed (log 36 for a shift of 0); or at a clock event or WAKE_TIMER_EXPIRY at which
something is due: the wake timer at 0, or another expiry taken in the same step (log 2). While DEEP stays, the plan,
source and TRX_PWR are kept, REF_EN but for the reset pin, and the wake timer but for the clock events. SLEEP_VOTE
with a new vote: unless all three votes are then DEEP_OK, WAKING begins (wake timer withdrawn, plan kept, REF_EN on,
TRX_PWR off) and nothing else but the vote changes; with all DEEP_OK the vote alone changes. PORT_RESET begins
WAKING with its port's vote STAY_AWAKE. CALL_DIAL and CALL_INCOMING that take a context from IDLE begin WAKING.
OCC_SUBMIT and SWITCH_BEGIN that make a record begin WAKING exactly when its subscription is not ABSENT and its
start is before Wp + L of the plan, and otherwise leave the sleep unit and its lines as they are. SLEEP_CONFIG, and
with no grant and every context IDLE OCC_CANCEL, leave the state, the plan, the wake timer and the lines as they
are. -/
def Obligations.DeepIsLeftOnlyForItsReasons : Prop :=
  ∀ s, s.ready → s.scu.sleep = .deep →
    (∀ p tag (v : Octet) x, voteOf v.toNat = some x → s.scu.votes.get p ≠ x → ∃ b u,
      exec (.sleepVote p tag [v]) s = .next (answered p tag .ok b u) ∧
      ((∃ y, (s.scu.votes.set p x).get y ≠ .deepOk) → u = { s with
          scu := { s.scu with votes := s.scu.votes.set p x, sleep := .waking, wakeTimer := none }
          pins := { s.pins with refEn := true, trxPwr := false } }) ∧
      ((∀ y, (s.scu.votes.set p x).get y = .deepOk) →
        u = { s with scu := { s.scu with votes := s.scu.votes.set p x } })) ∧
    (∀ p tag, ∃ u, exec (.portReset p tag []) s = .next (answered p tag .ok [] u) ∧
      u.scu = { s.scu with votes := s.scu.votes.set p .stayAwake, sleep := .waking, wakeTimer := none } ∧
      u.pins = { s.pins with refEn := true, trxPwr := false } ∧ u.tlu = s.tlu) ∧
    (∀ c p tag body, c = .callDial p tag body ∨ c = .callIncoming p tag body → ∃ t, exec c s = .next t ∧
      ((∃ n x y, s.ctx n = some x ∧ x.state = .idle ∧ t.ctx n = some y ∧ y.state ≠ .idle) →
        t.scu = { s.scu with sleep := .waking, wakeTimer := none } ∧
        t.pins = { s.pins with refEn := true, trxPwr := false })) ∧
    (∀ c p tag body w, c = .occSubmit p tag body ∨ c = .switchBegin p tag body → s.scu.plan = some w →
      ∃ t, exec c s = .next t ∧ ∀ n o, s.occ n = none → t.occ n = some o →
        ((s.sub o.sub).state ≠ .absent → before o.start (addTicks w.wp w.lead) = true →
          t.scu = { s.scu with sleep := .waking, wakeTimer := none } ∧
          t.pins = { s.pins with refEn := true, trxPwr := false }) ∧
        ((s.sub o.sub).state = .absent ∨ before o.start (addTicks w.wp w.lead) = false →
          t.scu = s.scu ∧ t.pins = s.pins)) ∧
    (∀ tag body, ∃ t, exec (.sleepConfig .apt tag body) s = .next t ∧ t.scu.sleep = .deep ∧ t.scu.plan = s.scu.plan ∧
      t.scu.wakeTimer = s.scu.wakeTimer ∧ t.pins = s.pins) ∧
    (∀ p tag body, s.tgu.grant = none → (∀ c ∈ s.cct.ctxs, c.state = .idle) →
      ∃ t, exec (.occCancel p tag body) s = .next t ∧ t.scu = s.scu ∧ t.pins = s.pins) ∧
    (∀ c t, exec c s = .next t → s.belowMissLimit → t.scu.sleep ≠ .deep →
      c = .powerOnReset ∨ (∃ p tag body, c = .partReset p tag body ∨ c = .calibrate p tag body) ∨
      ((∃ p tag body, (c = .sleepVote p tag body ∧ t.scu.votes.get p ≠ s.scu.votes.get p) ∨ c = .portReset p tag body) ∧
        ∃ y, t.scu.votes.get y ≠ .deepOk) ∨
      (∃ n x y, s.ctx n = some x ∧ t.ctx n = some y ∧ x.state ≠ y.state) ∨
      (∃ w n o, s.scu.plan = some w ∧ t.occ n = some o ∧ o.state = .waiting ∧
        ((s.sub o.sub).state ≠ .absent ∨ (t.sub o.sub).state ≠ .absent) ∧ before o.start (addTicks w.wp w.lead) = true ∧
        (s.occ n ≠ some o ∨ ∃ p tag body, c = .anchorAdjust p tag body ∨ c = .camp p tag body ∨ c = .switchEnd p tag body)) ∨
      ((c = .htTick ∨ (∃ f, c = .slowCycle f) ∨ (∃ i, c = .anchorAdvance i) ∨ c = .wakeTimerExpiry) ∧
        ¬ s.nothingDue)) ∧
    (∀ c t, exec c s = .next t → t.scu.sleep = .deep → t.scu.plan = s.scu.plan ∧ t.tlu.source = s.tlu.source ∧
      t.pins.trxPwr = s.pins.trxPwr ∧ (c ≠ .resetPinAsserted → t.pins.refEn = s.pins.refEn) ∧
      ((∀ f i, c ≠ .htTick ∧ c ≠ .slowCycle f ∧ c ≠ .anchorAdvance i ∧ c ≠ .wakeTimerExpiry) →
        t.scu.wakeTimer = s.scu.wakeTimer))


/-- CALIBRATE from the APT with the calibration IDLE: in AWAKE or DOZE with the reference up a calibration runs with the
exponent in force; with the reference not up it is PENDING; in WAKING it is PENDING; in DEEP it is PENDING and
WAKING begins with REF_EN on. Otherwise it is refused BUSY_CAL. With a calibration RUNNING that has counted its 2^n
slow cycles and C fast cycles over them (how the counts reach the model, and that the fast cycles given at the
completion are not in C: log 12): R' is C x 2^(24 - n) / 600 rounded half up. In 16,367,616..16,400,384 it becomes
the ratio, which is valid, the last calibration is HT, the recalibration expiry HT + interval and the due flag
clear, and CAL_DONE arrives at the APT; otherwise the ratio, its valid flag and the times are kept and
CAL_OUT_OF_RANGE arrives. The votes, HT and every other block are as they were, and no calibration is RUNNING with
those counts any more. With no calibration running, or slow cycles still to count, nothing happens (log 1). -/
def Obligations.CalibrationStartsAndEnds : Prop :=
  (∀ s tag, s.ready →
      (s.scu.cal = .idle → ∃ b u, exec (.calibrate .apt tag []) s = .next (answered .apt tag .ok b u) ∧
        (s.scu.sleep = .awake ∨ s.scu.sleep = .doze → s.scu.refUp = true →
          u = { s with scu := { s.scu with cal := .running ⟨s.scu.winExp, false, 0, 0⟩ } }) ∧
        (s.scu.sleep = .waking ∨ (s.scu.sleep ≠ .deep ∧ s.scu.refUp = false) →
          u = { s with scu := { s.scu with cal := .pending } }) ∧
        (s.scu.sleep = .deep → u = { s with
            scu := { s.scu with cal := .pending, sleep := .waking, wakeTimer := none }
            pins := { s.pins with refEn := true, trxPwr := false } })) ∧
      (s.scu.cal ≠ .idle → exec (.calibrate .apt tag []) s = .next (refusedWith .apt 46 tag .busyCal s))) ∧
  (∀ s f, s.ready →
      (∀ r, s.scu.cal = .running r → 2 ^ r.n ≤ r.slow → ∃ t, exec (.calibrationComplete f) s = .next t ∧
        (∀ x, x = (r.fast * 2 ^ (24 - r.n) + 300) / 600 →
          (16367616 ≤ x → x ≤ 16400384 → t.scu.ratio = x ∧ t.scu.valid = true ∧ t.scu.lastCal = some s.tlu.ht ∧
            t.scu.recalExpiry = some (addTicks s.tlu.ht s.scu.interval) ∧ t.scu.due = false ∧ t.scu.cal = .idle ∧
            t.unit .apt = ((s.unit .apt).enqueue {
                kind := .calDone
                urgent := false
                sub := none
                subject := some r.n
                cause := 0
                stamp := s.tlu.ht
                detail := oct32 x ++ oct32 r.fast }).drive false) ∧
          (x < 16367616 ∨ 16400384 < x → t.scu.ratio = s.scu.ratio ∧ t.scu.valid = s.scu.valid ∧
            t.scu.lastCal = s.scu.lastCal ∧ t.scu.recalExpiry = s.scu.recalExpiry ∧ t.scu.due = s.scu.due ∧
            t.unit .apt = ((s.unit .apt).enqueue {
                kind := .calOutOfRange
                urgent := false
                sub := none
                subject := some r.n
                cause := 0
                stamp := s.tlu.ht
                detail := oct32 x ++ oct32 r.fast }).drive false)) ∧
        (t.scu.cal = .idle ∨ t.scu.cal = .running ⟨s.scu.winExp, false, 0, 0⟩) ∧
        t.scu.votes = s.scu.votes ∧ t.tlu.ht = s.tlu.ht ∧ t.pins.trxSel = s.pins.trxSel ∧
        t = { s with tlu := t.tlu, scu := t.scu, pins := t.pins, ports := t.ports }) ∧
      (∀ r, s.scu.cal = .running r → r.slow < 2 ^ r.n → exec (.calibrationComplete f) s = .next s) ∧
      ((∀ r, s.scu.cal ≠ .running r) → exec (.calibrationComplete f) s = .next s))

/-- Each when it is due, and nothing when it is not (log 1). RECALIBRATION_EXPIRY: the due flag is set and the expiry
absent. DOZE_POWER_UP_EXPIRY in DOZE: TRX_PWR is on and the expiry absent. WAKE_TIMER_EXPIRY in DEEP with the timer
at 0, no other expiry of the tick being due: the state is WAKING with the timer withdrawn, REF_EN on and TRX_PWR
off. Nothing else changes. REF_READY in WAKING: the fraction is dropped, and a PENDING calibration runs; HT,
anchors, votes and every block but the sleep unit and its lines are as they were. The state is AWAKE with some vote
STAY_AWAKE, DOZE with none and some DOZE_OK, and DOZE or DEEP with all DEEP_OK: it is not WAKING. Unless it is DEEP
again, the source is FAST from divider 0, the reference is up and there is no plan. In AWAKE or DOZE with the
reference not up, and every vote STAY_AWAKE: the reference is up and a PENDING calibration runs; nothing else
changes. In DEEP, and in AWAKE or DOZE with the reference up, nothing happens. -/
def Obligations.SleepExpiriesAndRefReadyAct : Prop :=
  (∀ s, s.ready → s.attentionFollows →
      (∀ e, s.scu.recalExpiry = some e →
        (passed e s.tlu.ht = true →
          exec .recalibrationExpiry s = .next { s with scu := { s.scu with recalExpiry := none, due := true } }) ∧
        (passed e s.tlu.ht = false → exec .recalibrationExpiry s = .next s)) ∧
      (∀ e, s.scu.dozeExpiry = some e →
        (s.scu.sleep = .doze → passed e s.tlu.ht = true → exec .dozePowerUpExpiry s =
          .next { s with scu := { s.scu with dozeExpiry := none }, pins := { s.pins with trxPwr := true } }) ∧
        (s.scu.sleep ≠ .doze ∨ passed e s.tlu.ht = false → exec .dozePowerUpExpiry s = .next s)) ∧
      (s.scu.sleep = .deep → s.scu.wakeTimer = some 0 → settleExpiries s = s → exec .wakeTimerExpiry s =
        .next { s with
            scu := { s.scu with sleep := .waking, wakeTimer := none }
            pins := { s.pins with refEn := true, trxPwr := false } }) ∧
      (s.scu.sleep ≠ .deep ∨ s.scu.wakeTimer ≠ some 0 → exec .wakeTimerExpiry s = .next s)) ∧
  (∀ s, s.ready → s.attentionFollows →
      (s.scu.sleep = .waking → ∃ t, exec .refReady s = .next t ∧ t.scu.acc = 0 ∧ t.scu.votes = s.scu.votes ∧
        t.tlu.ht = s.tlu.ht ∧ t.tlu.anchor = s.tlu.anchor ∧ (t.scu.sleep ≠ .deep → t.tlu.source = .fast ∧
          t.tlu.divider = 0 ∧ t.scu.refUp = true ∧ t.scu.plan = none) ∧
        ((∃ p, s.scu.votes.get p = .stayAwake) → t.scu.sleep = .awake) ∧
        ((∀ p, s.scu.votes.get p ≠ .stayAwake) → (∃ p, s.scu.votes.get p = .dozeOk) → t.scu.sleep = .doze) ∧
        ((∀ p, s.scu.votes.get p = .deepOk) → t.scu.sleep = .doze ∨ t.scu.sleep = .deep) ∧
        (s.scu.cal = .pending →
          t.scu.cal = .running ⟨s.scu.winExp, false, 0, 0⟩ ∧ t.scu.sleep ≠ .deep) ∧
        t = { s with tlu := t.tlu, scu := t.scu, pins := t.pins } ∧ t.pins.trxSel = s.pins.trxSel) ∧
      (s.scu.sleep = .awake ∨ s.scu.sleep = .doze → s.scu.refUp = false → (∀ p, s.scu.votes.get p = .stayAwake) →
        exec .refReady s = .next { s with
            tlu := { s.tlu with divider := 0 }
            scu := { s.scu with
                refUp := true
                cal := if s.scu.cal = .pending then .running ⟨s.scu.winExp, false, 0, 0⟩ else s.scu.cal } }) ∧
      (s.scu.sleep = .deep ∨ (s.scu.sleep ≠ .waking ∧ s.scu.refUp = true) → exec .refReady s = .next s))

/-- PORT_RESET, on every port: its queue is empty, lost flag, latch, masks and quiet clear, two-line mode, and its vote
STAY_AWAKE; other ports and every block but the sleep unit, the count source and its lines are as they were.
PART_RESET from the APT leaves every block at the value the reset tables give: HT and divider kept, anchors invalid,
source by the new sleep state; subscriptions DETACHED and unbound, miss limit 4; every slot free and unmarked with
its generation and fresh flag kept; no grant, W 1024, A 32, nothing used or staged, ties SUB0, window number of the
kept HT; cell tables, trigger configurations, triggers and switch records at their defaults; contexts IDLE and
empty, limits 4 s and 2 s, no hold, AUDIO_SEL none; text store empty with its settings, commit counter kept; votes
STAY_AWAKE, reference flag, fraction, ratio, valid flag, last calibration kept, AWAKE from AWAKE or DOZE and WAKING
from DEEP or WAKING, no plan or timers, default settings, a calibration PENDING only from AWAKE or DOZE with the
reference not up, and the recalibration expiry last calibration + 30 s, taken at once when it has passed. Each queue
holds one RESET_DONE of cause PART_RESET (33) at HT with ATTN_U asserted, and the port units are at their defaults.
(The default text settings: R162.) (The DOZE power-up expiry none and the kept subscription none: deduced, log 26.) -/
def Obligations.PortResetAndPartReset : Prop :=
  (∀ (s : State) tag p, s.ready → ∃ u : State, exec (.portReset p tag []) s = .next (answered p tag .ok [] u) ∧
    u.unit p = { s.unit p with
        queue := []
        lost := false
        latch := none
        oneLine := false
        maskU := false
        maskR := false
        quiet := false } ∧ (∀ q, q ≠ p → u.unit q = s.unit q) ∧
    u.scu.votes = s.scu.votes.set p .stayAwake ∧ u.tlu.ht = s.tlu.ht ∧ u.tlu.anchor = s.tlu.anchor ∧
    u.pins.trxSel = s.pins.trxSel ∧ u = { s with tlu := u.tlu, scu := u.scu, pins := u.pins, ports := u.ports }) ∧
  ∀ s tag, s.ready → ∃ t, exec (.partReset .apt tag []) s = .next t ∧ t.pending = s.pending ∧ t.inReset = false ∧
    t.tlu = { s.tlu with
        anchor := ⟨none, none⟩
        source := if s.scu.sleep = .deep ∨ s.scu.sleep = .waking then .slow else .fast } ∧
    (∀ i, t.sub i = {
        bound := none
        state := .detached
        prior := .detached
        miss := 0
        serving := none
        stagedWaiting := false }) ∧ t.sbt.missLimit = 4 ∧
    (∀ n : Nat, t.ocl.slots[n]? = (s.ocl.slots[n]?).map (fun sl : CalSlot => { sl with late := false, kept := none, occ := none })) ∧
    t.tgu = {
        grant := none
        window := s.tlu.ht.toNat / 16 / 1024
        used := 0
        w := 1024
        a := 32
        stagedW := none
        stagedA := none
        tie := ⟨.sub0, .sub0, .sub0, .sub0⟩ } ∧
    (∀ i, t.watch i = {
        
        cells := List.replicate 16 {
            state := .empty
            cell := none
            offset := 0
            level := none
            count := 0
            timing := none
            bar := none }
        evalRec := none
        config := {
            k := 2
            h := 4
            ttt := 320 * 32
            mode := .hold
            repeatTicks := 2 * 32000
            barTicks := 10 * 32000 }
        staged := { k := none, h := none, ttt := none, mode := none, repeatTicks := none, barTicks := none }
        trigger := .idle
        switchRec := none
        lateClose := false }) ∧
    t.cct = {
        
        ctxs := List.replicate 4 {
            state := .idle
            sub := none
            direction := none
            digits := none
            reference := none
            audio := false
            cause := none
            started := none
            connected := none
            timer := none }
        setupLimit := 4 * 32000
        releaseLimit := 2 * 32000
        hold := ⟨false, false⟩
        audioSel := none } ∧
    t.txs = {
        pool := List.replicate 64 none
        entries := List.replicate 8 .free
        inbox := []
        timeout := 120 * 32000
        partialOn := true
        sends := List.replicate 4 none
        active := ⟨none, none⟩
        staged := ⟨none, none⟩
        commits := s.txs.commits } ∧
    (∃ x d, t.scu = { s.scu with
        sleep := if s.scu.sleep = .deep ∨ s.scu.sleep = .waking then .waking else .awake
        votes := ⟨.stayAwake, .stayAwake, .stayAwake⟩
        recalExpiry := x
        due := d
        cal := if s.scu.sleep = .deep ∨ s.scu.sleep = .waking ∨ s.scu.refUp = true then .idle else .pending
        plan := none
        wakeTimer := none
        dozeExpiry := none
        lead := 4 * 16
        ppm := 50
        interval := 30 * 32000
        winExp := 12 } ∧
      (s.scu.due = true ∨ s.scu.lastCal = none → x = none ∧ d = s.scu.due) ∧
      ∀ c, s.scu.due = false → s.scu.lastCal = some c →
        (passed (addTicks c 960000) s.tlu.ht = true → x = none ∧ d = true) ∧
        (passed (addTicks c 960000) s.tlu.ht = false → x = some (addTicks c 960000) ∧ d = false)) ∧
    t.pins = { trxSel := none, refEn := true, trxPwr := decide (s.scu.sleep = .awake ∨ s.scu.sleep = .doze) } ∧
    ∀ p, t.unit p = {
        queue := [{
            kind := .resetDone
            urgent := true
            sub := none
            subject := none
            cause := 33
            stamp := s.tlu.ht
            detail := [] }]
        lost := false
        latch := none
        oneLine := false
        maskU := false
        maskR := false
        quiet := false
        attnU := true
        attnR := false
        response := (t.unit p).response }

/-- From the APT, out of reset, with presence octets 0 or 1: a present miss limit is clamped to 1..15; a present tie
preference is SUB0 for 0 and SUB1 for any other value; a present W is staged as 256, 512, 1024 or 2048, the highest
not above the value but at least 256; a present A is staged, at most 255; an absent field changes nothing. Nothing
else of the part changes. A presence octet above 1 is refused BAD_FIELD. Out of reset, with presence octets 0 or 1.
CALL_CONFIG (APT) sets the setup limit to 1..30 s and the release limit to 1..10 s; TEXT_CONFIG (APT) the reassembly
timeout to 5..600 s and partial delivery off for 0, on otherwise; EVENT_CONFIG (any port) its own port's mode, two
masks and quiet flag, 0 clear and any other value set, with the lines following at once. An absent field keeps its
setting and nothing else changes. (Order and widths of POLICY_SET's fields and the widths of the other settings: log
8.) -/
def Obligations.ConfigurationRequestsClampAndSet : Prop :=
  (∀ s tag (mp m p0 t0 p1 t1 p2 t2 p3 t3 wp w0 w1 ap a0 a1 : Octet), s.ready →
      (mp.toNat ≤ 1 → p0.toNat ≤ 1 → p1.toNat ≤ 1 → p2.toNat ≤ 1 → p3.toNat ≤ 1 → wp.toNat ≤ 1 → ap.toNat ≤ 1 →
        ∃ b, exec (.policySet .apt tag [mp, m, p0, t0, p1, t1, p2, t2, p3, t3, wp, w0, w1, ap, a0, a1]) s =
          .next (answered .apt tag .ok b { s with
              sbt := { s.sbt with missLimit := if mp = 1 then max 1 (min 15 m.toNat) else s.sbt.missLimit }
              tgu := { s.tgu with
                  tie := ⟨if p0 = 1 then (if t0 = 0 then .sub0 else .sub1) else s.tgu.tie.c0, if p1 = 1 then (if t1 = 0 then .sub0 else .sub1) else s.tgu.tie.c1, if p2 = 1 then (if t2 = 0 then .sub0 else .sub1) else s.tgu.tie.c2, if p3 = 1 then (if t3 = 0 then .sub0 else .sub1) else s.tgu.tie.c3⟩
                  stagedW := if wp = 1 then some (if u16 w0 w1 < 512 then 256 else if u16 w0 w1 < 1024 then 512 else if u16 w0 w1 < 2048 then 1024 else 2048) else s.tgu.stagedW
                  stagedA := if ap = 1 then some (min 255 (u16 a0 a1)) else s.tgu.stagedA } })) ∧
      (1 < mp.toNat ∨ 1 < p0.toNat ∨ 1 < p1.toNat ∨ 1 < p2.toNat ∨ 1 < p3.toNat ∨ 1 < wp.toNat ∨ 1 < ap.toNat →
        exec (.policySet .apt tag [mp, m, p0, t0, p1, t1, p2, t2, p3, t3, wp, w0, w1, ap, a0, a1]) s =
          .next (refusedWith .apt 9 tag .badField s))) ∧
  (∀ s tag, s.ready →
      (∀ p a0 a1 r b0 b1 : Octet, p.toNat ≤ 1 → r.toNat ≤ 1 → ∃ b,
        exec (.callConfig .apt tag [p, a0, a1, r, b0, b1]) s = .next (answered .apt tag .ok b { s with
            cct := { s.cct with
                setupLimit := if p = 1 then max 1 (min 30 (u16 a0 a1)) * 32000 else s.cct.setupLimit
                releaseLimit := if r = 1 then max 1 (min 10 (u16 b0 b1)) * 32000 else s.cct.releaseLimit } })) ∧
      (∀ p a0 a1 r v : Octet, p.toNat ≤ 1 → r.toNat ≤ 1 → ∃ b,
        exec (.textConfig .apt tag [p, a0, a1, r, v]) s = .next (answered .apt tag .ok b { s with
            txs := { s.txs with
                timeout := if p = 1 then max 5 (min 600 (u16 a0 a1)) * 32000 else s.txs.timeout
                partialOn := if r = 1 then decide (v ≠ 0) else s.txs.partialOn } })) ∧
      (∀ (port : Port) (mp m up u rp r qp q : Octet), mp.toNat ≤ 1 → up.toNat ≤ 1 → rp.toNat ≤ 1 → qp.toNat ≤ 1 → ∃ b,
        exec (.eventConfig port tag [mp, m, up, u, rp, r, qp, q]) s =
          .next (answered port tag .ok b (s.modUnit port (fun x => { x with
              oneLine := if mp = 1 then decide (m ≠ 0) else x.oneLine
              maskU := if up = 1 then decide (u ≠ 0) else x.maskU
              maskR := if rp = 1 then decide (r ≠ 0) else x.maskR
              quiet := if qp = 1 then decide (q ≠ 0) else x.quiet })))))
end

