-- ==== Sys2Proof/Laws/State.lean ====
section
/-! SUPPORT. The small laws of State: what each setter leaves alone, field by field, and what it writes. -/
namespace Sys2Proof.Machine

/-! ### Two subscriptions and three ports -/

@[simp] theorem PerSub.get_set_self {α : Type} (x : PerSub α) (i : Sub) (v : α) : (x.set i v).get i = v := by
  cases i <;> rfl

@[simp] theorem PerSub.get_set_other {α : Type} (x : PerSub α) (i : Sub) (v : α) :
    (x.set i v).get i.other = x.get i.other := by
  cases i <;> rfl

theorem PerSub.get_set {α : Type} (x : PerSub α) (i j : Sub) (v : α) :
    (x.set i v).get j = if j = i then v else x.get j := by
  cases i <;> cases j <;> rfl

@[simp] theorem PerSub.set_get {α : Type} (x : PerSub α) (i : Sub) : x.set i (x.get i) = x := by
  cases i <;> rfl

@[simp] theorem PerPort.get_set_self {α : Type} (x : PerPort α) (p : Port) (v : α) : (x.set p v).get p = v := by
  cases p <;> rfl

theorem PerPort.get_set {α : Type} (x : PerPort α) (p q : Port) (v : α) :
    (x.set p v).get q = if q = p then v else x.get q := by
  cases p <;> cases q <;> rfl

theorem Sub.other_ne (i : Sub) : i.other ≠ i := by
  cases i <;> decide

@[simp] theorem Sub.other_other (i : Sub) : i.other.other = i := by
  cases i <;> rfl

theorem Sub.eq_or_other (i j : Sub) : j = i ∨ j = i.other := by
  cases i <;> cases j <;> decide


/-! ### State.modSub -/

@[simp] theorem State.modSub_pending (s : State) (i : Sub) (f : SubRecord → SubRecord) : (s.modSub i f).pending = s.pending := rfl
@[simp] theorem State.modSub_tlu (s : State) (i : Sub) (f : SubRecord → SubRecord) : (s.modSub i f).tlu = s.tlu := rfl
@[simp] theorem State.modSub_ocl (s : State) (i : Sub) (f : SubRecord → SubRecord) : (s.modSub i f).ocl = s.ocl := rfl
@[simp] theorem State.modSub_tgu (s : State) (i : Sub) (f : SubRecord → SubRecord) : (s.modSub i f).tgu = s.tgu := rfl
@[simp] theorem State.modSub_cwu (s : State) (i : Sub) (f : SubRecord → SubRecord) : (s.modSub i f).cwu = s.cwu := rfl
@[simp] theorem State.modSub_cct (s : State) (i : Sub) (f : SubRecord → SubRecord) : (s.modSub i f).cct = s.cct := rfl
@[simp] theorem State.modSub_txs (s : State) (i : Sub) (f : SubRecord → SubRecord) : (s.modSub i f).txs = s.txs := rfl
@[simp] theorem State.modSub_scu (s : State) (i : Sub) (f : SubRecord → SubRecord) : (s.modSub i f).scu = s.scu := rfl
@[simp] theorem State.modSub_ports (s : State) (i : Sub) (f : SubRecord → SubRecord) : (s.modSub i f).ports = s.ports := rfl
@[simp] theorem State.modSub_pins (s : State) (i : Sub) (f : SubRecord → SubRecord) : (s.modSub i f).pins = s.pins := rfl
@[simp] theorem State.modSub_inReset (s : State) (i : Sub) (f : SubRecord → SubRecord) : (s.modSub i f).inReset = s.inReset := rfl
@[simp] theorem State.modSub_freeCount (s : State) (i : Sub) (f : SubRecord → SubRecord) : (s.modSub i f).freeCount = s.freeCount := rfl
@[simp] theorem State.modSub_evalDue (s : State) (i : Sub) (f : SubRecord → SubRecord) : (s.modSub i f).evalDue = s.evalDue := rfl
@[simp] theorem State.modSub_evalWake (s : State) (i : Sub) (f : SubRecord → SubRecord) : (s.modSub i f).evalWake = s.evalWake := rfl

/-! ### State.setAnchor -/

@[simp] theorem State.setAnchor_pending (s : State) (i : Sub) (a : Option HT) : (s.setAnchor i a).pending = s.pending := rfl
@[simp] theorem State.setAnchor_sbt (s : State) (i : Sub) (a : Option HT) : (s.setAnchor i a).sbt = s.sbt := rfl
@[simp] theorem State.setAnchor_ocl (s : State) (i : Sub) (a : Option HT) : (s.setAnchor i a).ocl = s.ocl := rfl
@[simp] theorem State.setAnchor_tgu (s : State) (i : Sub) (a : Option HT) : (s.setAnchor i a).tgu = s.tgu := rfl
@[simp] theorem State.setAnchor_cwu (s : State) (i : Sub) (a : Option HT) : (s.setAnchor i a).cwu = s.cwu := rfl
@[simp] theorem State.setAnchor_cct (s : State) (i : Sub) (a : Option HT) : (s.setAnchor i a).cct = s.cct := rfl
@[simp] theorem State.setAnchor_txs (s : State) (i : Sub) (a : Option HT) : (s.setAnchor i a).txs = s.txs := rfl
@[simp] theorem State.setAnchor_scu (s : State) (i : Sub) (a : Option HT) : (s.setAnchor i a).scu = s.scu := rfl
@[simp] theorem State.setAnchor_ports (s : State) (i : Sub) (a : Option HT) : (s.setAnchor i a).ports = s.ports := rfl
@[simp] theorem State.setAnchor_pins (s : State) (i : Sub) (a : Option HT) : (s.setAnchor i a).pins = s.pins := rfl
@[simp] theorem State.setAnchor_inReset (s : State) (i : Sub) (a : Option HT) : (s.setAnchor i a).inReset = s.inReset := rfl
@[simp] theorem State.setAnchor_freeCount (s : State) (i : Sub) (a : Option HT) : (s.setAnchor i a).freeCount = s.freeCount := rfl
@[simp] theorem State.setAnchor_evalDue (s : State) (i : Sub) (a : Option HT) : (s.setAnchor i a).evalDue = s.evalDue := rfl
@[simp] theorem State.setAnchor_evalWake (s : State) (i : Sub) (a : Option HT) : (s.setAnchor i a).evalWake = s.evalWake := rfl

/-! ### State.modWatch -/

@[simp] theorem State.modWatch_pending (s : State) (i : Sub) (f : Cwu → Cwu) : (s.modWatch i f).pending = s.pending := rfl
@[simp] theorem State.modWatch_tlu (s : State) (i : Sub) (f : Cwu → Cwu) : (s.modWatch i f).tlu = s.tlu := rfl
@[simp] theorem State.modWatch_sbt (s : State) (i : Sub) (f : Cwu → Cwu) : (s.modWatch i f).sbt = s.sbt := rfl
@[simp] theorem State.modWatch_ocl (s : State) (i : Sub) (f : Cwu → Cwu) : (s.modWatch i f).ocl = s.ocl := rfl
@[simp] theorem State.modWatch_tgu (s : State) (i : Sub) (f : Cwu → Cwu) : (s.modWatch i f).tgu = s.tgu := rfl
@[simp] theorem State.modWatch_cct (s : State) (i : Sub) (f : Cwu → Cwu) : (s.modWatch i f).cct = s.cct := rfl
@[simp] theorem State.modWatch_txs (s : State) (i : Sub) (f : Cwu → Cwu) : (s.modWatch i f).txs = s.txs := rfl
@[simp] theorem State.modWatch_scu (s : State) (i : Sub) (f : Cwu → Cwu) : (s.modWatch i f).scu = s.scu := rfl
@[simp] theorem State.modWatch_ports (s : State) (i : Sub) (f : Cwu → Cwu) : (s.modWatch i f).ports = s.ports := rfl
@[simp] theorem State.modWatch_pins (s : State) (i : Sub) (f : Cwu → Cwu) : (s.modWatch i f).pins = s.pins := rfl
@[simp] theorem State.modWatch_inReset (s : State) (i : Sub) (f : Cwu → Cwu) : (s.modWatch i f).inReset = s.inReset := rfl
@[simp] theorem State.modWatch_freeCount (s : State) (i : Sub) (f : Cwu → Cwu) : (s.modWatch i f).freeCount = s.freeCount := rfl
@[simp] theorem State.modWatch_evalDue (s : State) (i : Sub) (f : Cwu → Cwu) : (s.modWatch i f).evalDue = s.evalDue := rfl
@[simp] theorem State.modWatch_evalWake (s : State) (i : Sub) (f : Cwu → Cwu) : (s.modWatch i f).evalWake = s.evalWake := rfl

/-! ### State.modUnit -/

@[simp] theorem State.modUnit_pending (s : State) (p : Port) (f : PortUnit → PortUnit) : (s.modUnit p f).pending = s.pending := rfl
@[simp] theorem State.modUnit_tlu (s : State) (p : Port) (f : PortUnit → PortUnit) : (s.modUnit p f).tlu = s.tlu := rfl
@[simp] theorem State.modUnit_sbt (s : State) (p : Port) (f : PortUnit → PortUnit) : (s.modUnit p f).sbt = s.sbt := rfl
@[simp] theorem State.modUnit_ocl (s : State) (p : Port) (f : PortUnit → PortUnit) : (s.modUnit p f).ocl = s.ocl := rfl
@[simp] theorem State.modUnit_tgu (s : State) (p : Port) (f : PortUnit → PortUnit) : (s.modUnit p f).tgu = s.tgu := rfl
@[simp] theorem State.modUnit_cwu (s : State) (p : Port) (f : PortUnit → PortUnit) : (s.modUnit p f).cwu = s.cwu := rfl
@[simp] theorem State.modUnit_cct (s : State) (p : Port) (f : PortUnit → PortUnit) : (s.modUnit p f).cct = s.cct := rfl
@[simp] theorem State.modUnit_txs (s : State) (p : Port) (f : PortUnit → PortUnit) : (s.modUnit p f).txs = s.txs := rfl
@[simp] theorem State.modUnit_scu (s : State) (p : Port) (f : PortUnit → PortUnit) : (s.modUnit p f).scu = s.scu := rfl
@[simp] theorem State.modUnit_pins (s : State) (p : Port) (f : PortUnit → PortUnit) : (s.modUnit p f).pins = s.pins := rfl
@[simp] theorem State.modUnit_inReset (s : State) (p : Port) (f : PortUnit → PortUnit) : (s.modUnit p f).inReset = s.inReset := rfl
@[simp] theorem State.modUnit_freeCount (s : State) (p : Port) (f : PortUnit → PortUnit) : (s.modUnit p f).freeCount = s.freeCount := rfl
@[simp] theorem State.modUnit_evalDue (s : State) (p : Port) (f : PortUnit → PortUnit) : (s.modUnit p f).evalDue = s.evalDue := rfl
@[simp] theorem State.modUnit_evalWake (s : State) (p : Port) (f : PortUnit → PortUnit) : (s.modUnit p f).evalWake = s.evalWake := rfl

/-! ### State.modSlot -/

@[simp] theorem State.modSlot_pending (s : State) (n : Nat) (f : CalSlot → CalSlot) : (s.modSlot n f).pending = s.pending := rfl
@[simp] theorem State.modSlot_tlu (s : State) (n : Nat) (f : CalSlot → CalSlot) : (s.modSlot n f).tlu = s.tlu := rfl
@[simp] theorem State.modSlot_sbt (s : State) (n : Nat) (f : CalSlot → CalSlot) : (s.modSlot n f).sbt = s.sbt := rfl
@[simp] theorem State.modSlot_tgu (s : State) (n : Nat) (f : CalSlot → CalSlot) : (s.modSlot n f).tgu = s.tgu := rfl
@[simp] theorem State.modSlot_cwu (s : State) (n : Nat) (f : CalSlot → CalSlot) : (s.modSlot n f).cwu = s.cwu := rfl
@[simp] theorem State.modSlot_cct (s : State) (n : Nat) (f : CalSlot → CalSlot) : (s.modSlot n f).cct = s.cct := rfl
@[simp] theorem State.modSlot_txs (s : State) (n : Nat) (f : CalSlot → CalSlot) : (s.modSlot n f).txs = s.txs := rfl
@[simp] theorem State.modSlot_scu (s : State) (n : Nat) (f : CalSlot → CalSlot) : (s.modSlot n f).scu = s.scu := rfl
@[simp] theorem State.modSlot_ports (s : State) (n : Nat) (f : CalSlot → CalSlot) : (s.modSlot n f).ports = s.ports := rfl
@[simp] theorem State.modSlot_pins (s : State) (n : Nat) (f : CalSlot → CalSlot) : (s.modSlot n f).pins = s.pins := rfl
@[simp] theorem State.modSlot_inReset (s : State) (n : Nat) (f : CalSlot → CalSlot) : (s.modSlot n f).inReset = s.inReset := rfl
@[simp] theorem State.modSlot_freeCount (s : State) (n : Nat) (f : CalSlot → CalSlot) : (s.modSlot n f).freeCount = s.freeCount := rfl
@[simp] theorem State.modSlot_evalDue (s : State) (n : Nat) (f : CalSlot → CalSlot) : (s.modSlot n f).evalDue = s.evalDue := rfl
@[simp] theorem State.modSlot_evalWake (s : State) (n : Nat) (f : CalSlot → CalSlot) : (s.modSlot n f).evalWake = s.evalWake := rfl

/-! ### State.setCtx -/

@[simp] theorem State.setCtx_pending (s : State) (n : Nat) (c : CallCtx) : (s.setCtx n c).pending = s.pending := rfl
@[simp] theorem State.setCtx_tlu (s : State) (n : Nat) (c : CallCtx) : (s.setCtx n c).tlu = s.tlu := rfl
@[simp] theorem State.setCtx_sbt (s : State) (n : Nat) (c : CallCtx) : (s.setCtx n c).sbt = s.sbt := rfl
@[simp] theorem State.setCtx_ocl (s : State) (n : Nat) (c : CallCtx) : (s.setCtx n c).ocl = s.ocl := rfl
@[simp] theorem State.setCtx_tgu (s : State) (n : Nat) (c : CallCtx) : (s.setCtx n c).tgu = s.tgu := rfl
@[simp] theorem State.setCtx_cwu (s : State) (n : Nat) (c : CallCtx) : (s.setCtx n c).cwu = s.cwu := rfl
@[simp] theorem State.setCtx_txs (s : State) (n : Nat) (c : CallCtx) : (s.setCtx n c).txs = s.txs := rfl
@[simp] theorem State.setCtx_scu (s : State) (n : Nat) (c : CallCtx) : (s.setCtx n c).scu = s.scu := rfl
@[simp] theorem State.setCtx_ports (s : State) (n : Nat) (c : CallCtx) : (s.setCtx n c).ports = s.ports := rfl
@[simp] theorem State.setCtx_pins (s : State) (n : Nat) (c : CallCtx) : (s.setCtx n c).pins = s.pins := rfl
@[simp] theorem State.setCtx_inReset (s : State) (n : Nat) (c : CallCtx) : (s.setCtx n c).inReset = s.inReset := rfl
@[simp] theorem State.setCtx_freeCount (s : State) (n : Nat) (c : CallCtx) : (s.setCtx n c).freeCount = s.freeCount := rfl
@[simp] theorem State.setCtx_evalDue (s : State) (n : Nat) (c : CallCtx) : (s.setCtx n c).evalDue = s.evalDue := rfl
@[simp] theorem State.setCtx_evalWake (s : State) (n : Nat) (c : CallCtx) : (s.setCtx n c).evalWake = s.evalWake := rfl

/-! ### State.setSend -/

@[simp] theorem State.setSend_pending (s : State) (n : Nat) (r : Option SendRec) : (s.setSend n r).pending = s.pending := rfl
@[simp] theorem State.setSend_tlu (s : State) (n : Nat) (r : Option SendRec) : (s.setSend n r).tlu = s.tlu := rfl
@[simp] theorem State.setSend_sbt (s : State) (n : Nat) (r : Option SendRec) : (s.setSend n r).sbt = s.sbt := rfl
@[simp] theorem State.setSend_ocl (s : State) (n : Nat) (r : Option SendRec) : (s.setSend n r).ocl = s.ocl := rfl
@[simp] theorem State.setSend_tgu (s : State) (n : Nat) (r : Option SendRec) : (s.setSend n r).tgu = s.tgu := rfl
@[simp] theorem State.setSend_cwu (s : State) (n : Nat) (r : Option SendRec) : (s.setSend n r).cwu = s.cwu := rfl
@[simp] theorem State.setSend_cct (s : State) (n : Nat) (r : Option SendRec) : (s.setSend n r).cct = s.cct := rfl
@[simp] theorem State.setSend_scu (s : State) (n : Nat) (r : Option SendRec) : (s.setSend n r).scu = s.scu := rfl
@[simp] theorem State.setSend_ports (s : State) (n : Nat) (r : Option SendRec) : (s.setSend n r).ports = s.ports := rfl
@[simp] theorem State.setSend_pins (s : State) (n : Nat) (r : Option SendRec) : (s.setSend n r).pins = s.pins := rfl
@[simp] theorem State.setSend_inReset (s : State) (n : Nat) (r : Option SendRec) : (s.setSend n r).inReset = s.inReset := rfl
@[simp] theorem State.setSend_freeCount (s : State) (n : Nat) (r : Option SendRec) : (s.setSend n r).freeCount = s.freeCount := rfl
@[simp] theorem State.setSend_evalDue (s : State) (n : Nat) (r : Option SendRec) : (s.setSend n r).evalDue = s.evalDue := rfl
@[simp] theorem State.setSend_evalWake (s : State) (n : Nat) (r : Option SendRec) : (s.setSend n r).evalWake = s.evalWake := rfl

/-! ### State.modTxs -/

@[simp] theorem State.modTxs_pending (s : State) (f : Txs → Txs) : (s.modTxs f).pending = s.pending := rfl
@[simp] theorem State.modTxs_tlu (s : State) (f : Txs → Txs) : (s.modTxs f).tlu = s.tlu := rfl
@[simp] theorem State.modTxs_sbt (s : State) (f : Txs → Txs) : (s.modTxs f).sbt = s.sbt := rfl
@[simp] theorem State.modTxs_ocl (s : State) (f : Txs → Txs) : (s.modTxs f).ocl = s.ocl := rfl
@[simp] theorem State.modTxs_tgu (s : State) (f : Txs → Txs) : (s.modTxs f).tgu = s.tgu := rfl
@[simp] theorem State.modTxs_cwu (s : State) (f : Txs → Txs) : (s.modTxs f).cwu = s.cwu := rfl
@[simp] theorem State.modTxs_cct (s : State) (f : Txs → Txs) : (s.modTxs f).cct = s.cct := rfl
@[simp] theorem State.modTxs_scu (s : State) (f : Txs → Txs) : (s.modTxs f).scu = s.scu := rfl
@[simp] theorem State.modTxs_ports (s : State) (f : Txs → Txs) : (s.modTxs f).ports = s.ports := rfl
@[simp] theorem State.modTxs_pins (s : State) (f : Txs → Txs) : (s.modTxs f).pins = s.pins := rfl
@[simp] theorem State.modTxs_inReset (s : State) (f : Txs → Txs) : (s.modTxs f).inReset = s.inReset := rfl
@[simp] theorem State.modTxs_freeCount (s : State) (f : Txs → Txs) : (s.modTxs f).freeCount = s.freeCount := rfl
@[simp] theorem State.modTxs_evalDue (s : State) (f : Txs → Txs) : (s.modTxs f).evalDue = s.evalDue := rfl
@[simp] theorem State.modTxs_evalWake (s : State) (f : Txs → Txs) : (s.modTxs f).evalWake = s.evalWake := rfl

/-! ### post -/

@[simp] theorem post_pending (p : Port) (e : Event) (s : State) : (post p e s).pending = s.pending := rfl
@[simp] theorem post_tlu (p : Port) (e : Event) (s : State) : (post p e s).tlu = s.tlu := rfl
@[simp] theorem post_sbt (p : Port) (e : Event) (s : State) : (post p e s).sbt = s.sbt := rfl
@[simp] theorem post_ocl (p : Port) (e : Event) (s : State) : (post p e s).ocl = s.ocl := rfl
@[simp] theorem post_tgu (p : Port) (e : Event) (s : State) : (post p e s).tgu = s.tgu := rfl
@[simp] theorem post_cwu (p : Port) (e : Event) (s : State) : (post p e s).cwu = s.cwu := rfl
@[simp] theorem post_cct (p : Port) (e : Event) (s : State) : (post p e s).cct = s.cct := rfl
@[simp] theorem post_txs (p : Port) (e : Event) (s : State) : (post p e s).txs = s.txs := rfl
@[simp] theorem post_scu (p : Port) (e : Event) (s : State) : (post p e s).scu = s.scu := rfl
@[simp] theorem post_pins (p : Port) (e : Event) (s : State) : (post p e s).pins = s.pins := rfl
@[simp] theorem post_inReset (p : Port) (e : Event) (s : State) : (post p e s).inReset = s.inReset := rfl
@[simp] theorem post_freeCount (p : Port) (e : Event) (s : State) : (post p e s).freeCount = s.freeCount := rfl
@[simp] theorem post_evalDue (p : Port) (e : Event) (s : State) : (post p e s).evalDue = s.evalDue := rfl
@[simp] theorem post_evalWake (p : Port) (e : Event) (s : State) : (post p e s).evalWake = s.evalWake := rfl

/-! ### noteEval -/

@[simp] theorem noteEval_pending (s : State) : (noteEval s).pending = s.pending := rfl
@[simp] theorem noteEval_tlu (s : State) : (noteEval s).tlu = s.tlu := rfl
@[simp] theorem noteEval_sbt (s : State) : (noteEval s).sbt = s.sbt := rfl
@[simp] theorem noteEval_ocl (s : State) : (noteEval s).ocl = s.ocl := rfl
@[simp] theorem noteEval_tgu (s : State) : (noteEval s).tgu = s.tgu := rfl
@[simp] theorem noteEval_cwu (s : State) : (noteEval s).cwu = s.cwu := rfl
@[simp] theorem noteEval_cct (s : State) : (noteEval s).cct = s.cct := rfl
@[simp] theorem noteEval_txs (s : State) : (noteEval s).txs = s.txs := rfl
@[simp] theorem noteEval_scu (s : State) : (noteEval s).scu = s.scu := rfl
@[simp] theorem noteEval_ports (s : State) : (noteEval s).ports = s.ports := rfl
@[simp] theorem noteEval_pins (s : State) : (noteEval s).pins = s.pins := rfl
@[simp] theorem noteEval_inReset (s : State) : (noteEval s).inReset = s.inReset := rfl
@[simp] theorem noteEval_freeCount (s : State) : (noteEval s).freeCount = s.freeCount := rfl
@[simp] theorem noteEval_evalWake (s : State) : (noteEval s).evalWake = s.evalWake := rfl

/-! ### noteWake -/

@[simp] theorem noteWake_pending (w : Bool) (s : State) : (noteWake w s).pending = s.pending := rfl
@[simp] theorem noteWake_tlu (w : Bool) (s : State) : (noteWake w s).tlu = s.tlu := rfl
@[simp] theorem noteWake_sbt (w : Bool) (s : State) : (noteWake w s).sbt = s.sbt := rfl
@[simp] theorem noteWake_ocl (w : Bool) (s : State) : (noteWake w s).ocl = s.ocl := rfl
@[simp] theorem noteWake_tgu (w : Bool) (s : State) : (noteWake w s).tgu = s.tgu := rfl
@[simp] theorem noteWake_cwu (w : Bool) (s : State) : (noteWake w s).cwu = s.cwu := rfl
@[simp] theorem noteWake_cct (w : Bool) (s : State) : (noteWake w s).cct = s.cct := rfl
@[simp] theorem noteWake_txs (w : Bool) (s : State) : (noteWake w s).txs = s.txs := rfl
@[simp] theorem noteWake_scu (w : Bool) (s : State) : (noteWake w s).scu = s.scu := rfl
@[simp] theorem noteWake_ports (w : Bool) (s : State) : (noteWake w s).ports = s.ports := rfl
@[simp] theorem noteWake_pins (w : Bool) (s : State) : (noteWake w s).pins = s.pins := rfl
@[simp] theorem noteWake_inReset (w : Bool) (s : State) : (noteWake w s).inReset = s.inReset := rfl
@[simp] theorem noteWake_freeCount (w : Bool) (s : State) : (noteWake w s).freeCount = s.freeCount := rfl

/-! ### respond -/

@[simp] theorem respond_pending (p : Port) (tag : Octet) (st : Status) (b : Out) (s : State) : (respond p tag st b s).pending = s.pending := rfl
@[simp] theorem respond_tlu (p : Port) (tag : Octet) (st : Status) (b : Out) (s : State) : (respond p tag st b s).tlu = s.tlu := rfl
@[simp] theorem respond_sbt (p : Port) (tag : Octet) (st : Status) (b : Out) (s : State) : (respond p tag st b s).sbt = s.sbt := rfl
@[simp] theorem respond_ocl (p : Port) (tag : Octet) (st : Status) (b : Out) (s : State) : (respond p tag st b s).ocl = s.ocl := rfl
@[simp] theorem respond_tgu (p : Port) (tag : Octet) (st : Status) (b : Out) (s : State) : (respond p tag st b s).tgu = s.tgu := rfl
@[simp] theorem respond_cwu (p : Port) (tag : Octet) (st : Status) (b : Out) (s : State) : (respond p tag st b s).cwu = s.cwu := rfl
@[simp] theorem respond_cct (p : Port) (tag : Octet) (st : Status) (b : Out) (s : State) : (respond p tag st b s).cct = s.cct := rfl
@[simp] theorem respond_txs (p : Port) (tag : Octet) (st : Status) (b : Out) (s : State) : (respond p tag st b s).txs = s.txs := rfl
@[simp] theorem respond_scu (p : Port) (tag : Octet) (st : Status) (b : Out) (s : State) : (respond p tag st b s).scu = s.scu := rfl
@[simp] theorem respond_pins (p : Port) (tag : Octet) (st : Status) (b : Out) (s : State) : (respond p tag st b s).pins = s.pins := rfl
@[simp] theorem respond_inReset (p : Port) (tag : Octet) (st : Status) (b : Out) (s : State) : (respond p tag st b s).inReset = s.inReset := rfl
@[simp] theorem respond_evalDue (p : Port) (tag : Octet) (st : Status) (b : Out) (s : State) : (respond p tag st b s).evalDue = s.evalDue := rfl
@[simp] theorem respond_evalWake (p : Port) (tag : Octet) (st : Status) (b : Out) (s : State) : (respond p tag st b s).evalWake = s.evalWake := rfl

/-! ### noResponse -/

@[simp] theorem noResponse_pending (p : Port) (s : State) : (noResponse p s).pending = s.pending := rfl
@[simp] theorem noResponse_tlu (p : Port) (s : State) : (noResponse p s).tlu = s.tlu := rfl
@[simp] theorem noResponse_sbt (p : Port) (s : State) : (noResponse p s).sbt = s.sbt := rfl
@[simp] theorem noResponse_ocl (p : Port) (s : State) : (noResponse p s).ocl = s.ocl := rfl
@[simp] theorem noResponse_tgu (p : Port) (s : State) : (noResponse p s).tgu = s.tgu := rfl
@[simp] theorem noResponse_cwu (p : Port) (s : State) : (noResponse p s).cwu = s.cwu := rfl
@[simp] theorem noResponse_cct (p : Port) (s : State) : (noResponse p s).cct = s.cct := rfl
@[simp] theorem noResponse_txs (p : Port) (s : State) : (noResponse p s).txs = s.txs := rfl
@[simp] theorem noResponse_scu (p : Port) (s : State) : (noResponse p s).scu = s.scu := rfl
@[simp] theorem noResponse_pins (p : Port) (s : State) : (noResponse p s).pins = s.pins := rfl
@[simp] theorem noResponse_inReset (p : Port) (s : State) : (noResponse p s).inReset = s.inReset := rfl
@[simp] theorem noResponse_freeCount (p : Port) (s : State) : (noResponse p s).freeCount = s.freeCount := rfl
@[simp] theorem noResponse_evalDue (p : Port) (s : State) : (noResponse p s).evalDue = s.evalDue := rfl
@[simp] theorem noResponse_evalWake (p : Port) (s : State) : (noResponse p s).evalWake = s.evalWake := rfl

/-! ### driveAttention -/

@[simp] theorem driveAttention_pending (s : State) : (driveAttention s).pending = s.pending := rfl
@[simp] theorem driveAttention_tlu (s : State) : (driveAttention s).tlu = s.tlu := rfl
@[simp] theorem driveAttention_sbt (s : State) : (driveAttention s).sbt = s.sbt := rfl
@[simp] theorem driveAttention_ocl (s : State) : (driveAttention s).ocl = s.ocl := rfl
@[simp] theorem driveAttention_tgu (s : State) : (driveAttention s).tgu = s.tgu := rfl
@[simp] theorem driveAttention_cwu (s : State) : (driveAttention s).cwu = s.cwu := rfl
@[simp] theorem driveAttention_cct (s : State) : (driveAttention s).cct = s.cct := rfl
@[simp] theorem driveAttention_txs (s : State) : (driveAttention s).txs = s.txs := rfl
@[simp] theorem driveAttention_scu (s : State) : (driveAttention s).scu = s.scu := rfl
@[simp] theorem driveAttention_pins (s : State) : (driveAttention s).pins = s.pins := rfl
@[simp] theorem driveAttention_inReset (s : State) : (driveAttention s).inReset = s.inReset := rfl
@[simp] theorem driveAttention_freeCount (s : State) : (driveAttention s).freeCount = s.freeCount := rfl
@[simp] theorem driveAttention_evalDue (s : State) : (driveAttention s).evalDue = s.evalDue := rfl
@[simp] theorem driveAttention_evalWake (s : State) : (driveAttention s).evalWake = s.evalWake := rfl

/-! ### answered -/

@[simp] theorem answered_pending (p : Port) (tag : Octet) (st : Status) (b : Out) (s : State) : (answered p tag st b s).pending = s.pending := rfl
@[simp] theorem answered_tlu (p : Port) (tag : Octet) (st : Status) (b : Out) (s : State) : (answered p tag st b s).tlu = s.tlu := rfl
@[simp] theorem answered_sbt (p : Port) (tag : Octet) (st : Status) (b : Out) (s : State) : (answered p tag st b s).sbt = s.sbt := rfl
@[simp] theorem answered_ocl (p : Port) (tag : Octet) (st : Status) (b : Out) (s : State) : (answered p tag st b s).ocl = s.ocl := rfl
@[simp] theorem answered_tgu (p : Port) (tag : Octet) (st : Status) (b : Out) (s : State) : (answered p tag st b s).tgu = s.tgu := rfl
@[simp] theorem answered_cwu (p : Port) (tag : Octet) (st : Status) (b : Out) (s : State) : (answered p tag st b s).cwu = s.cwu := rfl
@[simp] theorem answered_cct (p : Port) (tag : Octet) (st : Status) (b : Out) (s : State) : (answered p tag st b s).cct = s.cct := rfl
@[simp] theorem answered_txs (p : Port) (tag : Octet) (st : Status) (b : Out) (s : State) : (answered p tag st b s).txs = s.txs := rfl
@[simp] theorem answered_scu (p : Port) (tag : Octet) (st : Status) (b : Out) (s : State) : (answered p tag st b s).scu = s.scu := rfl
@[simp] theorem answered_pins (p : Port) (tag : Octet) (st : Status) (b : Out) (s : State) : (answered p tag st b s).pins = s.pins := rfl
@[simp] theorem answered_inReset (p : Port) (tag : Octet) (st : Status) (b : Out) (s : State) : (answered p tag st b s).inReset = s.inReset := rfl
@[simp] theorem answered_evalDue (p : Port) (tag : Octet) (st : Status) (b : Out) (s : State) : (answered p tag st b s).evalDue = s.evalDue := rfl
@[simp] theorem answered_evalWake (p : Port) (tag : Octet) (st : Status) (b : Out) (s : State) : (answered p tag st b s).evalWake = s.evalWake := rfl

/-! ### What the setters write -/

@[simp] theorem State.modSub_missLimit (s : State) (i : Sub) (f : SubRecord → SubRecord) :
    (s.modSub i f).sbt.missLimit = s.sbt.missLimit := rfl

@[simp] theorem State.sub_modSub_self (s : State) (i : Sub) (f : SubRecord → SubRecord) :
    (s.modSub i f).sub i = f (s.sub i) := by
  simp [State.sub, State.modSub]

theorem State.sub_modSub (s : State) (i j : Sub) (f : SubRecord → SubRecord) :
    (s.modSub i f).sub j = if j = i then f (s.sub i) else s.sub j := by
  simp [State.sub, State.modSub, PerSub.get_set]

@[simp] theorem State.sub_modSub_other (s : State) (i : Sub) (f : SubRecord → SubRecord) :
    (s.modSub i f).sub i.other = s.sub i.other := by
  simp [State.sub, State.modSub]

@[simp] theorem State.setAnchor_ht (s : State) (i : Sub) (a : Option HT) : (s.setAnchor i a).tlu.ht = s.tlu.ht := rfl

@[simp] theorem State.setAnchor_source (s : State) (i : Sub) (a : Option HT) :
    (s.setAnchor i a).tlu.source = s.tlu.source := rfl

@[simp] theorem State.setAnchor_divider (s : State) (i : Sub) (a : Option HT) :
    (s.setAnchor i a).tlu.divider = s.tlu.divider := rfl

@[simp] theorem State.anchor_setAnchor_self (s : State) (i : Sub) (a : Option HT) :
    (s.setAnchor i a).anchor i = a := by
  simp [State.anchor, State.setAnchor]

@[simp] theorem State.anchor_setAnchor_other (s : State) (i : Sub) (a : Option HT) :
    (s.setAnchor i a).anchor i.other = s.anchor i.other := by
  simp [State.anchor, State.setAnchor]

@[simp] theorem State.watch_modWatch_self (s : State) (i : Sub) (f : Cwu → Cwu) :
    (s.modWatch i f).watch i = f (s.watch i) := by
  simp [State.watch, State.modWatch]

theorem State.watch_modWatch (s : State) (i j : Sub) (f : Cwu → Cwu) :
    (s.modWatch i f).watch j = if j = i then f (s.watch i) else s.watch j := by
  simp [State.watch, State.modWatch, PerSub.get_set]

@[simp] theorem State.watch_modWatch_other (s : State) (i : Sub) (f : Cwu → Cwu) :
    (s.modWatch i f).watch i.other = s.watch i.other := by
  simp [State.watch, State.modWatch]

@[simp] theorem State.unit_modUnit_self (s : State) (p : Port) (f : PortUnit → PortUnit) :
    (s.modUnit p f).unit p = f (s.unit p) := by
  simp [State.unit, State.modUnit]

theorem State.unit_modUnit (s : State) (p q : Port) (f : PortUnit → PortUnit) :
    (s.modUnit p f).unit q = if q = p then f (s.unit p) else s.unit q := by
  simp [State.unit, State.modUnit, PerPort.get_set]

@[simp] theorem State.modSlot_length (s : State) (n : Nat) (f : CalSlot → CalSlot) :
    (s.modSlot n f).ocl.slots.length = s.ocl.slots.length := by
  simp [State.modSlot]

theorem State.slot_modSlot (s : State) (n m : Nat) (f : CalSlot → CalSlot) :
    (s.modSlot n f).ocl.slots[m]? = if n = m then (s.ocl.slots[m]?).map f else s.ocl.slots[m]? := by
  simp only [State.modSlot, List.getElem?_modify]
  split <;> simp

/-- The record in a slot after another slot's update is the record it was. -/
theorem State.occ_modSlot_ne (s : State) (n m : Nat) (f : CalSlot → CalSlot) (h : n ≠ m) :
    (s.modSlot n f).occ m = s.occ m := by
  simp [State.occ, State.slot_modSlot, h]

/-- The record in an existing slot after its update. -/
theorem State.occ_modSlot_self (s : State) (n : Nat) (f : CalSlot → CalSlot) (sl : CalSlot)
    (h : s.ocl.slots[n]? = some sl) : (s.modSlot n f).occ n = (f sl).occ := by
  simp [State.occ, State.slot_modSlot, h]

@[simp] theorem State.setCtx_length (s : State) (n : Nat) (c : CallCtx) :
    (s.setCtx n c).cct.ctxs.length = s.cct.ctxs.length := by
  simp [State.setCtx]

@[simp] theorem State.setCtx_hold (s : State) (n : Nat) (c : CallCtx) : (s.setCtx n c).cct.hold = s.cct.hold := rfl

@[simp] theorem State.setCtx_setupLimit (s : State) (n : Nat) (c : CallCtx) :
    (s.setCtx n c).cct.setupLimit = s.cct.setupLimit := rfl

@[simp] theorem State.setCtx_releaseLimit (s : State) (n : Nat) (c : CallCtx) :
    (s.setCtx n c).cct.releaseLimit = s.cct.releaseLimit := rfl

@[simp] theorem State.setCtx_audioSel (s : State) (n : Nat) (c : CallCtx) :
    (s.setCtx n c).cct.audioSel = s.cct.audioSel := rfl

theorem State.ctx_setCtx_ne (s : State) (n m : Nat) (c : CallCtx) (h : n ≠ m) : (s.setCtx n c).ctx m = s.ctx m := by
  simp [State.ctx, State.setCtx, h]

/-- A context that exists reads as what was set. -/
theorem State.ctx_setCtx_self (s : State) (n : Nat) (c : CallCtx) (h : n < s.cct.ctxs.length) :
    (s.setCtx n c).ctx n = some c := by
  simp [State.ctx, State.setCtx, h]

@[simp] theorem State.setSend_length (s : State) (n : Nat) (r : Option SendRec) :
    (s.setSend n r).txs.sends.length = s.txs.sends.length := by
  simp [State.setSend]

@[simp] theorem State.setSend_pool (s : State) (n : Nat) (r : Option SendRec) :
    (s.setSend n r).txs.pool = s.txs.pool := rfl

@[simp] theorem State.setSend_entries (s : State) (n : Nat) (r : Option SendRec) :
    (s.setSend n r).txs.entries = s.txs.entries := rfl

@[simp] theorem State.setSend_inbox (s : State) (n : Nat) (r : Option SendRec) :
    (s.setSend n r).txs.inbox = s.txs.inbox := rfl

@[simp] theorem State.setSend_active (s : State) (n : Nat) (r : Option SendRec) :
    (s.setSend n r).txs.active = s.txs.active := rfl

@[simp] theorem State.setSend_staged (s : State) (n : Nat) (r : Option SendRec) :
    (s.setSend n r).txs.staged = s.txs.staged := rfl

@[simp] theorem State.setSend_commits (s : State) (n : Nat) (r : Option SendRec) :
    (s.setSend n r).txs.commits = s.txs.commits := rfl

theorem State.send_setSend_ne (s : State) (n m : Nat) (r : Option SendRec) (h : n ≠ m) :
    (s.setSend n r).send m = s.send m := by
  simp [State.send, State.setSend, h]

theorem State.send_setSend_self (s : State) (n : Nat) (r : Option SendRec) (h : n < s.txs.sends.length) :
    (s.setSend n r).send n = r := by
  simp [State.send, State.setSend, h]

@[simp] theorem State.modTxs_txs (s : State) (f : Txs → Txs) : (s.modTxs f).txs = f s.txs := rfl

/-- A send record that is held has an id below the table's length. -/
theorem State.send_lt (s : State) (n : Nat) (r : SendRec) (h : s.send n = some r) : n < s.txs.sends.length := by
  by_cases hn : n < s.txs.sends.length
  · exact hn
  · rw [State.send, List.getElem?_eq_none (by omega)] at h
    simp at h

/-- A record held stands in an existing slot. -/
theorem State.occ_slot (s : State) (n : Nat) (o : Occasion) (h : s.occ n = some o) :
    ∃ sl, s.ocl.slots[n]? = some sl ∧ sl.occ = some o := by
  unfold State.occ at h
  split at h
  · exact ⟨_, ‹_›, h⟩
  · cases h

/-- A context that is read exists. -/
theorem State.ctx_lt (s : State) (n : Nat) (c : CallCtx) (h : s.ctx n = some c) : n < s.cct.ctxs.length := by
  unfold State.ctx at h
  exact (List.getElem?_eq_some_iff.mp h).1

/-! ### The current HT -/

@[simp] theorem State.modSub_now (s : State) (i : Sub) (f : SubRecord → SubRecord) : (s.modSub i f).now = s.now := rfl
@[simp] theorem State.setAnchor_now (s : State) (i : Sub) (a : Option HT) : (s.setAnchor i a).now = s.now := rfl
@[simp] theorem State.modWatch_now (s : State) (i : Sub) (f : Cwu → Cwu) : (s.modWatch i f).now = s.now := rfl
@[simp] theorem State.modUnit_now (s : State) (p : Port) (f : PortUnit → PortUnit) : (s.modUnit p f).now = s.now := rfl
@[simp] theorem State.modSlot_now (s : State) (n : Nat) (f : CalSlot → CalSlot) : (s.modSlot n f).now = s.now := rfl
@[simp] theorem State.setCtx_now (s : State) (n : Nat) (c : CallCtx) : (s.setCtx n c).now = s.now := rfl
@[simp] theorem State.setSend_now (s : State) (n : Nat) (r : Option SendRec) : (s.setSend n r).now = s.now := rfl
@[simp] theorem State.modTxs_now (s : State) (f : Txs → Txs) : (s.modTxs f).now = s.now := rfl
@[simp] theorem post_now (p : Port) (e : Event) (s : State) : (post p e s).now = s.now := rfl
@[simp] theorem noteEval_now (s : State) : (noteEval s).now = s.now := rfl
@[simp] theorem noteWake_now (w : Bool) (s : State) : (noteWake w s).now = s.now := rfl
@[simp] theorem respond_now (p : Port) (tag : Octet) (st : Status) (b : Out) (s : State) : (respond p tag st b s).now = s.now := rfl
@[simp] theorem noResponse_now (p : Port) (s : State) : (noResponse p s).now = s.now := rfl
@[simp] theorem driveAttention_now (s : State) : (driveAttention s).now = s.now := rfl
@[simp] theorem answered_now (p : Port) (tag : Octet) (st : Status) (b : Out) (s : State) : (answered p tag st b s).now = s.now := rfl

/-! ### The accessors look at one block -/

@[simp] theorem State.modSub_watch (s : State) (i : Sub) (f : SubRecord → SubRecord) (k : Sub) : (s.modSub i f).watch k = s.watch k := rfl
@[simp] theorem State.modSub_unit (s : State) (i : Sub) (f : SubRecord → SubRecord) (k : Port) : (s.modSub i f).unit k = s.unit k := rfl
@[simp] theorem State.modSub_occ (s : State) (i : Sub) (f : SubRecord → SubRecord) (k : Nat) : (s.modSub i f).occ k = s.occ k := rfl
@[simp] theorem State.modSub_ctx (s : State) (i : Sub) (f : SubRecord → SubRecord) (k : Nat) : (s.modSub i f).ctx k = s.ctx k := rfl
@[simp] theorem State.modSub_send (s : State) (i : Sub) (f : SubRecord → SubRecord) (k : Nat) : (s.modSub i f).send k = s.send k := rfl
@[simp] theorem State.modSub_anchor (s : State) (i : Sub) (f : SubRecord → SubRecord) (k : Sub) : (s.modSub i f).anchor k = s.anchor k := rfl
@[simp] theorem State.setAnchor_sub (s : State) (i : Sub) (a : Option HT) (k : Sub) : (s.setAnchor i a).sub k = s.sub k := rfl
@[simp] theorem State.setAnchor_watch (s : State) (i : Sub) (a : Option HT) (k : Sub) : (s.setAnchor i a).watch k = s.watch k := rfl
@[simp] theorem State.setAnchor_unit (s : State) (i : Sub) (a : Option HT) (k : Port) : (s.setAnchor i a).unit k = s.unit k := rfl
@[simp] theorem State.setAnchor_occ (s : State) (i : Sub) (a : Option HT) (k : Nat) : (s.setAnchor i a).occ k = s.occ k := rfl
@[simp] theorem State.setAnchor_ctx (s : State) (i : Sub) (a : Option HT) (k : Nat) : (s.setAnchor i a).ctx k = s.ctx k := rfl
@[simp] theorem State.setAnchor_send (s : State) (i : Sub) (a : Option HT) (k : Nat) : (s.setAnchor i a).send k = s.send k := rfl
@[simp] theorem State.modWatch_sub (s : State) (i : Sub) (f : Cwu → Cwu) (k : Sub) : (s.modWatch i f).sub k = s.sub k := rfl
@[simp] theorem State.modWatch_unit (s : State) (i : Sub) (f : Cwu → Cwu) (k : Port) : (s.modWatch i f).unit k = s.unit k := rfl
@[simp] theorem State.modWatch_occ (s : State) (i : Sub) (f : Cwu → Cwu) (k : Nat) : (s.modWatch i f).occ k = s.occ k := rfl
@[simp] theorem State.modWatch_ctx (s : State) (i : Sub) (f : Cwu → Cwu) (k : Nat) : (s.modWatch i f).ctx k = s.ctx k := rfl
@[simp] theorem State.modWatch_send (s : State) (i : Sub) (f : Cwu → Cwu) (k : Nat) : (s.modWatch i f).send k = s.send k := rfl
@[simp] theorem State.modWatch_anchor (s : State) (i : Sub) (f : Cwu → Cwu) (k : Sub) : (s.modWatch i f).anchor k = s.anchor k := rfl
@[simp] theorem State.modUnit_sub (s : State) (p : Port) (f : PortUnit → PortUnit) (k : Sub) : (s.modUnit p f).sub k = s.sub k := rfl
@[simp] theorem State.modUnit_watch (s : State) (p : Port) (f : PortUnit → PortUnit) (k : Sub) : (s.modUnit p f).watch k = s.watch k := rfl
@[simp] theorem State.modUnit_occ (s : State) (p : Port) (f : PortUnit → PortUnit) (k : Nat) : (s.modUnit p f).occ k = s.occ k := rfl
@[simp] theorem State.modUnit_ctx (s : State) (p : Port) (f : PortUnit → PortUnit) (k : Nat) : (s.modUnit p f).ctx k = s.ctx k := rfl
@[simp] theorem State.modUnit_send (s : State) (p : Port) (f : PortUnit → PortUnit) (k : Nat) : (s.modUnit p f).send k = s.send k := rfl
@[simp] theorem State.modUnit_anchor (s : State) (p : Port) (f : PortUnit → PortUnit) (k : Sub) : (s.modUnit p f).anchor k = s.anchor k := rfl
@[simp] theorem State.modSlot_sub (s : State) (n : Nat) (f : CalSlot → CalSlot) (k : Sub) : (s.modSlot n f).sub k = s.sub k := rfl
@[simp] theorem State.modSlot_watch (s : State) (n : Nat) (f : CalSlot → CalSlot) (k : Sub) : (s.modSlot n f).watch k = s.watch k := rfl
@[simp] theorem State.modSlot_unit (s : State) (n : Nat) (f : CalSlot → CalSlot) (k : Port) : (s.modSlot n f).unit k = s.unit k := rfl
@[simp] theorem State.modSlot_ctx (s : State) (n : Nat) (f : CalSlot → CalSlot) (k : Nat) : (s.modSlot n f).ctx k = s.ctx k := rfl
@[simp] theorem State.modSlot_send (s : State) (n : Nat) (f : CalSlot → CalSlot) (k : Nat) : (s.modSlot n f).send k = s.send k := rfl
@[simp] theorem State.modSlot_anchor (s : State) (n : Nat) (f : CalSlot → CalSlot) (k : Sub) : (s.modSlot n f).anchor k = s.anchor k := rfl
@[simp] theorem State.setCtx_sub (s : State) (n : Nat) (c : CallCtx) (k : Sub) : (s.setCtx n c).sub k = s.sub k := rfl
@[simp] theorem State.setCtx_watch (s : State) (n : Nat) (c : CallCtx) (k : Sub) : (s.setCtx n c).watch k = s.watch k := rfl
@[simp] theorem State.setCtx_unit (s : State) (n : Nat) (c : CallCtx) (k : Port) : (s.setCtx n c).unit k = s.unit k := rfl
@[simp] theorem State.setCtx_occ (s : State) (n : Nat) (c : CallCtx) (k : Nat) : (s.setCtx n c).occ k = s.occ k := rfl
@[simp] theorem State.setCtx_send (s : State) (n : Nat) (c : CallCtx) (k : Nat) : (s.setCtx n c).send k = s.send k := rfl
@[simp] theorem State.setCtx_anchor (s : State) (n : Nat) (c : CallCtx) (k : Sub) : (s.setCtx n c).anchor k = s.anchor k := rfl
@[simp] theorem State.setSend_sub (s : State) (n : Nat) (r : Option SendRec) (k : Sub) : (s.setSend n r).sub k = s.sub k := rfl
@[simp] theorem State.setSend_watch (s : State) (n : Nat) (r : Option SendRec) (k : Sub) : (s.setSend n r).watch k = s.watch k := rfl
@[simp] theorem State.setSend_unit (s : State) (n : Nat) (r : Option SendRec) (k : Port) : (s.setSend n r).unit k = s.unit k := rfl
@[simp] theorem State.setSend_occ (s : State) (n : Nat) (r : Option SendRec) (k : Nat) : (s.setSend n r).occ k = s.occ k := rfl
@[simp] theorem State.setSend_ctx (s : State) (n : Nat) (r : Option SendRec) (k : Nat) : (s.setSend n r).ctx k = s.ctx k := rfl
@[simp] theorem State.setSend_anchor (s : State) (n : Nat) (r : Option SendRec) (k : Sub) : (s.setSend n r).anchor k = s.anchor k := rfl
@[simp] theorem State.modTxs_sub (s : State) (f : Txs → Txs) (k : Sub) : (s.modTxs f).sub k = s.sub k := rfl
@[simp] theorem State.modTxs_watch (s : State) (f : Txs → Txs) (k : Sub) : (s.modTxs f).watch k = s.watch k := rfl
@[simp] theorem State.modTxs_unit (s : State) (f : Txs → Txs) (k : Port) : (s.modTxs f).unit k = s.unit k := rfl
@[simp] theorem State.modTxs_occ (s : State) (f : Txs → Txs) (k : Nat) : (s.modTxs f).occ k = s.occ k := rfl
@[simp] theorem State.modTxs_ctx (s : State) (f : Txs → Txs) (k : Nat) : (s.modTxs f).ctx k = s.ctx k := rfl
@[simp] theorem State.modTxs_anchor (s : State) (f : Txs → Txs) (k : Sub) : (s.modTxs f).anchor k = s.anchor k := rfl
@[simp] theorem post_sub (p : Port) (e : Event) (s : State) (k : Sub) : (post p e s).sub k = s.sub k := rfl
@[simp] theorem post_watch (p : Port) (e : Event) (s : State) (k : Sub) : (post p e s).watch k = s.watch k := rfl
@[simp] theorem post_occ (p : Port) (e : Event) (s : State) (k : Nat) : (post p e s).occ k = s.occ k := rfl
@[simp] theorem post_ctx (p : Port) (e : Event) (s : State) (k : Nat) : (post p e s).ctx k = s.ctx k := rfl
@[simp] theorem post_send (p : Port) (e : Event) (s : State) (k : Nat) : (post p e s).send k = s.send k := rfl
@[simp] theorem post_anchor (p : Port) (e : Event) (s : State) (k : Sub) : (post p e s).anchor k = s.anchor k := rfl
@[simp] theorem noteEval_sub (s : State) (k : Sub) : (noteEval s).sub k = s.sub k := rfl
@[simp] theorem noteEval_watch (s : State) (k : Sub) : (noteEval s).watch k = s.watch k := rfl
@[simp] theorem noteEval_unit (s : State) (k : Port) : (noteEval s).unit k = s.unit k := rfl
@[simp] theorem noteEval_occ (s : State) (k : Nat) : (noteEval s).occ k = s.occ k := rfl
@[simp] theorem noteEval_ctx (s : State) (k : Nat) : (noteEval s).ctx k = s.ctx k := rfl
@[simp] theorem noteEval_send (s : State) (k : Nat) : (noteEval s).send k = s.send k := rfl
@[simp] theorem noteEval_anchor (s : State) (k : Sub) : (noteEval s).anchor k = s.anchor k := rfl
@[simp] theorem noteWake_sub (w : Bool) (s : State) (k : Sub) : (noteWake w s).sub k = s.sub k := rfl
@[simp] theorem noteWake_watch (w : Bool) (s : State) (k : Sub) : (noteWake w s).watch k = s.watch k := rfl
@[simp] theorem noteWake_unit (w : Bool) (s : State) (k : Port) : (noteWake w s).unit k = s.unit k := rfl
@[simp] theorem noteWake_occ (w : Bool) (s : State) (k : Nat) : (noteWake w s).occ k = s.occ k := rfl
@[simp] theorem noteWake_ctx (w : Bool) (s : State) (k : Nat) : (noteWake w s).ctx k = s.ctx k := rfl
@[simp] theorem noteWake_send (w : Bool) (s : State) (k : Nat) : (noteWake w s).send k = s.send k := rfl
@[simp] theorem noteWake_anchor (w : Bool) (s : State) (k : Sub) : (noteWake w s).anchor k = s.anchor k := rfl
@[simp] theorem respond_sub (p : Port) (tag : Octet) (st : Status) (b : Out) (s : State) (k : Sub) : (respond p tag st b s).sub k = s.sub k := rfl
@[simp] theorem respond_watch (p : Port) (tag : Octet) (st : Status) (b : Out) (s : State) (k : Sub) : (respond p tag st b s).watch k = s.watch k := rfl
@[simp] theorem respond_occ (p : Port) (tag : Octet) (st : Status) (b : Out) (s : State) (k : Nat) : (respond p tag st b s).occ k = s.occ k := rfl
@[simp] theorem respond_ctx (p : Port) (tag : Octet) (st : Status) (b : Out) (s : State) (k : Nat) : (respond p tag st b s).ctx k = s.ctx k := rfl
@[simp] theorem respond_send (p : Port) (tag : Octet) (st : Status) (b : Out) (s : State) (k : Nat) : (respond p tag st b s).send k = s.send k := rfl
@[simp] theorem respond_anchor (p : Port) (tag : Octet) (st : Status) (b : Out) (s : State) (k : Sub) : (respond p tag st b s).anchor k = s.anchor k := rfl
@[simp] theorem noResponse_sub (p : Port) (s : State) (k : Sub) : (noResponse p s).sub k = s.sub k := rfl
@[simp] theorem noResponse_watch (p : Port) (s : State) (k : Sub) : (noResponse p s).watch k = s.watch k := rfl
@[simp] theorem noResponse_occ (p : Port) (s : State) (k : Nat) : (noResponse p s).occ k = s.occ k := rfl
@[simp] theorem noResponse_ctx (p : Port) (s : State) (k : Nat) : (noResponse p s).ctx k = s.ctx k := rfl
@[simp] theorem noResponse_send (p : Port) (s : State) (k : Nat) : (noResponse p s).send k = s.send k := rfl
@[simp] theorem noResponse_anchor (p : Port) (s : State) (k : Sub) : (noResponse p s).anchor k = s.anchor k := rfl
@[simp] theorem driveAttention_sub (s : State) (k : Sub) : (driveAttention s).sub k = s.sub k := rfl
@[simp] theorem driveAttention_watch (s : State) (k : Sub) : (driveAttention s).watch k = s.watch k := rfl
@[simp] theorem driveAttention_occ (s : State) (k : Nat) : (driveAttention s).occ k = s.occ k := rfl
@[simp] theorem driveAttention_ctx (s : State) (k : Nat) : (driveAttention s).ctx k = s.ctx k := rfl
@[simp] theorem driveAttention_send (s : State) (k : Nat) : (driveAttention s).send k = s.send k := rfl
@[simp] theorem driveAttention_anchor (s : State) (k : Sub) : (driveAttention s).anchor k = s.anchor k := rfl
@[simp] theorem answered_sub (p : Port) (tag : Octet) (st : Status) (b : Out) (s : State) (k : Sub) : (answered p tag st b s).sub k = s.sub k := rfl
@[simp] theorem answered_watch (p : Port) (tag : Octet) (st : Status) (b : Out) (s : State) (k : Sub) : (answered p tag st b s).watch k = s.watch k := rfl
@[simp] theorem answered_occ (p : Port) (tag : Octet) (st : Status) (b : Out) (s : State) (k : Nat) : (answered p tag st b s).occ k = s.occ k := rfl
@[simp] theorem answered_ctx (p : Port) (tag : Octet) (st : Status) (b : Out) (s : State) (k : Nat) : (answered p tag st b s).ctx k = s.ctx k := rfl
@[simp] theorem answered_send (p : Port) (tag : Octet) (st : Status) (b : Out) (s : State) (k : Nat) : (answered p tag st b s).send k = s.send k := rfl
@[simp] theorem answered_anchor (p : Port) (tag : Octet) (st : Status) (b : Out) (s : State) (k : Sub) : (answered p tag st b s).anchor k = s.anchor k := rfl

end Sys2Proof.Machine
end

