-- ==== Sys2Proof/Laws/Sleep.lean ====
section
/-! SUPPORT. What an evaluation of the sleep unit can do: it writes the sleep state, the calibration, the plan, the count
source, REF_EN and TRX_PWR, and nothing of another block. -/
namespace Sys2Proof.Machine

/-- What an evaluation leaves alone. -/
structure SleepOnly (s t : State) : Prop where
  pending : t.pending = s.pending
  ht : t.tlu.ht = s.tlu.ht
  anchor : t.tlu.anchor = s.tlu.anchor
  sbt : t.sbt = s.sbt
  ocl : t.ocl = s.ocl
  tgu : t.tgu = s.tgu
  cwu : t.cwu = s.cwu
  cct : t.cct = s.cct
  txs : t.txs = s.txs
  ports : t.ports = s.ports
  trxSel : t.pins.trxSel = s.pins.trxSel
  inReset : t.inReset = s.inReset
  freeCount : t.freeCount = s.freeCount
  votes : t.scu.votes = s.scu.votes
  refUp : t.scu.refUp = true → s.scu.refUp = true
  ratio : t.scu.ratio = s.scu.ratio
  valid : t.scu.valid = s.scu.valid
  lastCal : t.scu.lastCal = s.scu.lastCal
  recalExpiry : t.scu.recalExpiry = s.scu.recalExpiry
  due : t.scu.due = s.scu.due
  acc : t.scu.acc = s.scu.acc
  lead : t.scu.lead = s.scu.lead
  ppm : t.scu.ppm = s.scu.ppm
  interval : t.scu.interval = s.scu.interval
  winExp : t.scu.winExp = s.scu.winExp

theorem SleepOnly.refl (s : State) : SleepOnly s s := by
  constructor <;> first | rfl | exact id

theorem SleepOnly.trans {s t u : State} (h : SleepOnly s t) (k : SleepOnly t u) : SleepOnly s u where
  pending := k.pending.trans h.pending
  ht := k.ht.trans h.ht
  anchor := k.anchor.trans h.anchor
  sbt := k.sbt.trans h.sbt
  ocl := k.ocl.trans h.ocl
  tgu := k.tgu.trans h.tgu
  cwu := k.cwu.trans h.cwu
  cct := k.cct.trans h.cct
  txs := k.txs.trans h.txs
  ports := k.ports.trans h.ports
  trxSel := k.trxSel.trans h.trxSel
  inReset := k.inReset.trans h.inReset
  freeCount := k.freeCount.trans h.freeCount
  votes := k.votes.trans h.votes
  refUp := fun x => h.refUp (k.refUp x)
  ratio := k.ratio.trans h.ratio
  valid := k.valid.trans h.valid
  lastCal := k.lastCal.trans h.lastCal
  recalExpiry := k.recalExpiry.trans h.recalExpiry
  due := k.due.trans h.due
  acc := k.acc.trans h.acc
  lead := k.lead.trans h.lead
  ppm := k.ppm.trans h.ppm
  interval := k.interval.trans h.interval
  winExp := k.winExp.trans h.winExp

theorem toAwake_sleepOnly (s : State) : SleepOnly s (toAwake s) := by
  constructor <;> first | rfl | exact id

theorem toDoze_sleepOnly (s : State) : SleepOnly s (toDoze s) := by
  constructor <;> first | rfl | exact id

theorem enterDeep_sleepOnly (p : WakePlan) (s : State) : SleepOnly s (enterDeep p s) := by
  constructor <;> first | rfl | (intro h; cases h)

theorem startWaking_sleepOnly (s : State) : SleepOnly s (startWaking s) := by
  constructor <;> first | rfl | exact id

theorem startCalibration_sleepOnly (s : State) : SleepOnly s (startCalibration s) := by
  constructor <;> first | rfl | exact id

theorem runPending_sleepOnly (s : State) : SleepOnly s (runPending s) := by
  unfold runPending
  split
  · exact startCalibration_sleepOnly s
  · exact SleepOnly.refl s

theorem calibrateFirst_sleepOnly (s : State) : SleepOnly s (calibrateFirst s) := by
  unfold calibrateFirst
  split
  · exact startCalibration_sleepOnly s
  · exact SleepOnly.refl s

theorem tryDeep_sleepOnly (s : State) : SleepOnly s (tryDeep s) := by
  unfold tryDeep
  split
  · split
    · exact enterDeep_sleepOnly _ s
    · exact toDoze_sleepOnly s
  · exact toDoze_sleepOnly s

theorem chooseState_sleepOnly (s : State) : SleepOnly s (chooseState s) := by
  unfold chooseState
  split
  · exact toAwake_sleepOnly s
  · exact toDoze_sleepOnly s
  · exact (calibrateFirst_sleepOnly s).trans (tryDeep_sleepOnly _)

theorem evaluate_sleepOnly (w : Bool) (s : State) : SleepOnly s (evaluate w s) := by
  unfold evaluate
  split
  · exact chooseState_sleepOnly s
  · exact chooseState_sleepOnly s
  · split
    · exact startWaking_sleepOnly s
    · exact SleepOnly.refl s
  · exact SleepOnly.refl s

theorem runEval_sleepOnly (s : State) : SleepOnly s (runEval s) := by
  unfold runEval
  split
  · refine SleepOnly.trans ?_ (evaluate_sleepOnly _ _)
    constructor <;> first | rfl | exact id
  · exact SleepOnly.refl s

/-! ### The frame of the owed evaluation, field by field -/

@[simp] theorem runEval_pending (s : State) : (runEval s).pending = s.pending := (runEval_sleepOnly s).pending

@[simp] theorem runEval_sbt (s : State) : (runEval s).sbt = s.sbt := (runEval_sleepOnly s).sbt

@[simp] theorem runEval_ocl (s : State) : (runEval s).ocl = s.ocl := (runEval_sleepOnly s).ocl

@[simp] theorem runEval_tgu (s : State) : (runEval s).tgu = s.tgu := (runEval_sleepOnly s).tgu

@[simp] theorem runEval_cwu (s : State) : (runEval s).cwu = s.cwu := (runEval_sleepOnly s).cwu

@[simp] theorem runEval_cct (s : State) : (runEval s).cct = s.cct := (runEval_sleepOnly s).cct

@[simp] theorem runEval_txs (s : State) : (runEval s).txs = s.txs := (runEval_sleepOnly s).txs

@[simp] theorem runEval_ports (s : State) : (runEval s).ports = s.ports := (runEval_sleepOnly s).ports

@[simp] theorem runEval_inReset (s : State) : (runEval s).inReset = s.inReset := (runEval_sleepOnly s).inReset

@[simp] theorem runEval_freeCount (s : State) : (runEval s).freeCount = s.freeCount := (runEval_sleepOnly s).freeCount

@[simp] theorem runEval_ht (s : State) : (runEval s).tlu.ht = s.tlu.ht := (runEval_sleepOnly s).ht

@[simp] theorem runEval_now (s : State) : (runEval s).now = s.now := (runEval_sleepOnly s).ht

@[simp] theorem runEval_trxSel (s : State) : (runEval s).pins.trxSel = s.pins.trxSel := (runEval_sleepOnly s).trxSel

@[simp] theorem runEval_votes (s : State) : (runEval s).scu.votes = s.scu.votes := (runEval_sleepOnly s).votes

@[simp] theorem runEval_ratio (s : State) : (runEval s).scu.ratio = s.scu.ratio := (runEval_sleepOnly s).ratio

@[simp] theorem runEval_valid (s : State) : (runEval s).scu.valid = s.scu.valid := (runEval_sleepOnly s).valid

@[simp] theorem runEval_lastCal (s : State) : (runEval s).scu.lastCal = s.scu.lastCal := (runEval_sleepOnly s).lastCal

@[simp] theorem runEval_recalExpiry (s : State) : (runEval s).scu.recalExpiry = s.scu.recalExpiry := (runEval_sleepOnly s).recalExpiry

@[simp] theorem runEval_due (s : State) : (runEval s).scu.due = s.scu.due := (runEval_sleepOnly s).due

@[simp] theorem runEval_acc (s : State) : (runEval s).scu.acc = s.scu.acc := (runEval_sleepOnly s).acc

@[simp] theorem runEval_lead (s : State) : (runEval s).scu.lead = s.scu.lead := (runEval_sleepOnly s).lead

@[simp] theorem runEval_ppm (s : State) : (runEval s).scu.ppm = s.scu.ppm := (runEval_sleepOnly s).ppm

@[simp] theorem runEval_interval (s : State) : (runEval s).scu.interval = s.scu.interval := (runEval_sleepOnly s).interval

@[simp] theorem runEval_winExp (s : State) : (runEval s).scu.winExp = s.scu.winExp := (runEval_sleepOnly s).winExp

@[simp] theorem runEval_sub (s : State) (i : Sub) : (runEval s).sub i = s.sub i := by
  simp [State.sub]

@[simp] theorem runEval_watch (s : State) (i : Sub) : (runEval s).watch i = s.watch i := by
  simp [State.watch]

@[simp] theorem runEval_unit (s : State) (i : Port) : (runEval s).unit i = s.unit i := by
  simp [State.unit]

@[simp] theorem runEval_occ (s : State) (i : Nat) : (runEval s).occ i = s.occ i := by
  simp [State.occ]

@[simp] theorem runEval_ctx (s : State) (i : Nat) : (runEval s).ctx i = s.ctx i := by
  simp [State.ctx]

@[simp] theorem runEval_send (s : State) (i : Nat) : (runEval s).send i = s.send i := by
  simp [State.send]

@[simp] theorem runEval_anchor (s : State) (i : Sub) : (runEval s).anchor i = s.anchor i := by
  rw [State.anchor, (runEval_sleepOnly s).anchor, State.anchor]

/-! ### When nothing is owed -/

/-- With no evaluation owed none is made. -/
theorem runEval_of_not_due (s : State) (h : s.evalDue = false) : runEval s = s := by
  simp [runEval, h]

theorem toDoze_evalDue (s : State) : (toDoze s).evalDue = s.evalDue ∧ (toDoze s).evalWake = s.evalWake := ⟨rfl, rfl⟩

theorem evaluate_evalDue (w : Bool) (s : State) :
    (evaluate w s).evalDue = s.evalDue ∧ (evaluate w s).evalWake = s.evalWake := by
  have hc : (calibrateFirst s).evalDue = s.evalDue ∧ (calibrateFirst s).evalWake = s.evalWake := by
    unfold calibrateFirst
    split <;> exact ⟨rfl, rfl⟩
  have ht : ∀ x : State, (tryDeep x).evalDue = x.evalDue ∧ (tryDeep x).evalWake = x.evalWake := by
    intro x
    unfold tryDeep
    split
    · split <;> exact ⟨rfl, rfl⟩
    · exact ⟨rfl, rfl⟩
  have hs : (chooseState s).evalDue = s.evalDue ∧ (chooseState s).evalWake = s.evalWake := by
    unfold chooseState
    split
    · exact ⟨rfl, rfl⟩
    · exact ⟨rfl, rfl⟩
    · exact ⟨(ht _).1.trans hc.1, (ht _).2.trans hc.2⟩
  unfold evaluate
  split
  · exact hs
  · exact hs
  · split <;> exact ⟨rfl, rfl⟩
  · exact ⟨rfl, rfl⟩

/-- After the owed evaluation none is owed, if a wake was owed only together with an evaluation. -/
theorem runEval_settled (s : State) (h : s.evalDue = false → s.evalWake = false) : (runEval s).settled := by
  unfold runEval
  split
  · exact evaluate_evalDue _ _
  · rename_i hd
    have hd' : s.evalDue = false := by simpa using hd
    exact ⟨hd', h hd'⟩

/-! ### The sleep lines (R179) -/

theorem sleepLines_congr {s t : State} (h : s.sleepLines) (hr : t.inReset = s.inReset)
    (hso : t.tlu.source = s.tlu.source) (hsl : t.scu.sleep = s.scu.sleep) (href : t.pins.refEn = s.pins.refEn)
    (hpw : t.pins.trxPwr = s.pins.trxPwr) : t.sleepLines := by
  unfold State.sleepLines
  rw [hr, hso, hsl, href, hpw]
  exact h

/-- The lines of AWAKE and DOZE from a state whose source is FAST. -/
theorem toAwake_sleepLines (s : State) (h : s.inReset = false → s.tlu.source = .fast) : (toAwake s).sleepLines := by
  intro hr
  have := h hr
  simp [toAwake, this]

theorem toDoze_sleepLines (s : State) (h : s.inReset = false → s.tlu.source = .fast) : (toDoze s).sleepLines := by
  intro hr
  have := h hr
  simp [toDoze, this]

theorem enterDeep_sleepLines (p : WakePlan) (s : State) : (enterDeep p s).sleepLines := by
  intro _
  simp [enterDeep]

theorem startWaking_sleepLines (s : State) (h : s.inReset = false → s.tlu.source = .slow) :
    (startWaking s).sleepLines := by
  intro hr
  have := h hr
  simp [startWaking, this]

theorem chooseState_sleepLines (s : State) (h : s.inReset = false → s.tlu.source = .fast) :
    (chooseState s).sleepLines := by
  have hc : (calibrateFirst s).inReset = false → (calibrateFirst s).tlu.source = .fast := by
    unfold calibrateFirst
    split <;> exact h
  unfold chooseState
  split
  · exact toAwake_sleepLines s h
  · exact toDoze_sleepLines s h
  · unfold tryDeep
    split
    · split
      · exact enterDeep_sleepLines _ _
      · exact toDoze_sleepLines _ hc
    · exact toDoze_sleepLines _ hc

/-- In AWAKE and DOZE the source is FAST. -/
theorem source_fast_of_sleepLines {s : State} (h : s.sleepLines) (hs : s.scu.sleep.notReady = false)
    (hr : s.inReset = false) : s.tlu.source = .fast := by
  have := (h hr).1
  cases hsl : s.scu.sleep <;> cases hso : s.tlu.source <;> simp_all [Sleep.notReady]

/-- An evaluation keeps the sleep lines in agreement with the sleep state. -/
theorem evaluate_sleepLines (w : Bool) (s : State) (h : s.sleepLines) : (evaluate w s).sleepLines := by
  unfold evaluate
  split
  · rename_i hs
    exact chooseState_sleepLines s (fun hr => source_fast_of_sleepLines h (by rw [hs]; rfl) hr)
  · rename_i hs
    exact chooseState_sleepLines s (fun hr => source_fast_of_sleepLines h (by rw [hs]; rfl) hr)
  · rename_i hs
    split
    · exact startWaking_sleepLines s (fun hr => ((h hr).1).mpr (Or.inl hs))
    · exact h
  · exact h

theorem runEval_sleepLines (s : State) (h : s.sleepLines) : (runEval s).sleepLines := by
  unfold runEval
  split
  · exact evaluate_sleepLines _ _ (sleepLines_congr h rfl rfl rfl rfl rfl)
  · exact h

end Sys2Proof.Machine
end

