-- ==== Sys2Proof/Laws/Answer.lean ====
section
/-! SUPPORT. What taking a command can do: the attention lines, a request in one event, an event that is due, and the
events it queues. -/
namespace Sys2Proof.Machine

/-! ### The attention lines (R204) -/

/-- Driven lines follow the queue, the masks and the mode. -/
theorem PortUnit.drive_follows (b : Bool) (u : PortUnit) : (u.drive b).attentionFollows b := by
  have hu : u.hasUrgent = true ↔ ∃ e ∈ u.queue, e.urgent = true ∧ u.maskU = false := by
    simp only [PortUnit.hasUrgent, Bool.and_eq_true, Bool.not_eq_true', List.any_eq_true]
    exact ⟨fun ⟨hm, e, he, h⟩ => ⟨e, he, h, hm⟩, fun ⟨e, he, h, hm⟩ => ⟨hm, e, he, h⟩⟩
  have hr : u.hasRoutine = true ↔ ∃ e ∈ u.queue, e.urgent = false ∧ u.maskR = false := by
    simp only [PortUnit.hasRoutine, Bool.and_eq_true, Bool.not_eq_true', List.any_eq_true]
    exact ⟨fun ⟨hm, e, he, h⟩ => ⟨e, he, h, hm⟩, fun ⟨e, he, h, hm⟩ => ⟨hm, e, he, h⟩⟩
  constructor
  · by_cases ho : u.oneLine = true
    · simp only [PortUnit.drive, PortUnit.wantU, ho, if_true, Bool.and_eq_true, Bool.or_eq_true, hu, hr,
        Bool.not_eq_true', true_and]
      refine and_congr Iff.rfl ⟨?_, ?_⟩
      · rintro (⟨e, he, h1, h2⟩ | ⟨e, he, h1, h2⟩)
        · exact ⟨e, he, Or.inl ⟨h1, h2⟩⟩
        · exact ⟨e, he, Or.inr ⟨h1, h2⟩⟩
      · rintro ⟨e, he, ⟨h1, h2⟩ | ⟨h1, h2⟩⟩
        · exact Or.inl ⟨e, he, h1, h2⟩
        · exact Or.inr ⟨e, he, h1, h2⟩
    · have ho' : u.oneLine = false := by simpa using ho
      simp only [PortUnit.drive, PortUnit.wantU, ho', Bool.and_eq_true, Bool.not_eq_true']
      simp [hu]
  · by_cases ho : u.oneLine = true
    · simp [PortUnit.drive, PortUnit.wantR, ho]
    · have ho' : u.oneLine = false := by simpa using ho
      simp only [PortUnit.drive, PortUnit.wantR, ho', Bool.and_eq_true, Bool.not_eq_true']
      simp [hr]

/-- At the end of an event every port's lines follow its queue. -/
theorem driveAttention_follows (s : State) : (driveAttention s).attentionFollows := by
  intro p
  cases p <;> exact PortUnit.drive_follows _ _

/-- Lines that follow already are left as they are. -/
theorem PortUnit.drive_of_follows (b : Bool) (u : PortUnit) (h : u.attentionFollows b) : u.drive b = u := by
  have hd := PortUnit.drive_follows b u
  have h1 : (u.drive b).attnU = u.attnU := Bool.eq_iff_iff.mpr (hd.1.trans h.1.symm)
  have h2 : (u.drive b).attnR = u.attnR := Bool.eq_iff_iff.mpr (hd.2.trans h.2.symm)
  have : u.drive b = { u with attnU := (u.drive b).attnU, attnR := (u.drive b).attnR } := rfl
  rw [this, h1, h2]

theorem driveAttention_of_follows (s : State) (h : s.attentionFollows) : driveAttention s = s := by
  have h0 := PortUnit.drive_of_follows _ _ (h .spt0)
  have h1 := PortUnit.drive_of_follows _ _ (h .spt1)
  have h2 := PortUnit.drive_of_follows _ _ (h .apt)
  simp only [State.unit, PerPort.get] at h0 h1 h2
  unfold driveAttention
  rw [h0, h1, h2]

/-- Driving the lines changes no queue, mask, mode, latch or response of a port. -/
theorem unit_driveAttention (s : State) (p : Port) :
    (driveAttention s).unit p = { s.unit p with
      attnU := ((s.unit p).drive s.inReset).attnU, attnR := ((s.unit p).drive s.inReset).attnR } := by
  cases p <;> rfl

/-! ### A request in one event (R196 to R200, R208) -/

section
variable {β : Type} {kind : Octet} {a : Permitted} {p : Port} {tag : Octet} {body : List Octet}
  {parse : List Octet → Option β} {run : β → State → Reply} {s : State}

/-- A request that fits and is taken by its kind's own rule. -/
theorem serve_taken {b : β} {st : Status} {s' : State} {out : Out} (hr : s.inReset = false) (ha : a.on p = true)
    (hl : body.length ≤ 248) (hp : parse body = some b) (hrun : run b s = .taken st s' out) :
    serve kind a p tag body parse run s = .next (answered p tag st out (runEval s')) := by
  have hl' : ¬ 248 < body.length := by omega
  simp [serve, hr, frameCheck, ha, hl', hp, hrun, conclude, commit, answered]

/-- A request that fits and is refused by its kind's own rule. -/
theorem serve_refused {b : β} {st : Status} {out : Out} (hr : s.inReset = false) (ha : a.on p = true)
    (hl : body.length ≤ 248) (hp : parse body = some b) (hrun : run b s = .refused st out) :
    serve kind a p tag body parse run s = .next (answered p tag st out (latchRefusal p kind tag st s)) := by
  have hl' : ¬ 248 < body.length := by omega
  simp [serve, hr, frameCheck, ha, hl', hp, hrun, conclude, commit, answered]

/-- A kind not permitted on its port (R197, R198). -/
theorem serve_unsupported (hr : s.inReset = false) (ha : a.on p = false) :
    serve kind a p tag body parse run s = .next (refusedWith p kind tag .unsupported s) := by
  simp [serve, hr, frameCheck, ha, refuse, conclude, commit, refusedWith, answered]

/-- A body too long or of the wrong shape (R197). -/
theorem serve_malformed (hr : s.inReset = false) (ha : a.on p = true) (hb : 248 < body.length ∨ parse body = none) :
    serve kind a p tag body parse run s = .next (refusedWith p kind tag .malformed s) := by
  by_cases hl : 248 < body.length
  · simp [serve, hr, frameCheck, ha, hl, refuse, conclude, commit, refusedWith, answered]
  · have hp : parse body = none := hb.resolve_left hl
    simp [serve, hr, frameCheck, ha, hl, hp, refuse, conclude, commit, refusedWith, answered]

/-- With the reset pin asserted a request has no response and no effect (R208). -/
theorem serve_inReset (hr : s.inReset = true) :
    serve kind a p tag body parse run s = .next (driveAttention (noResponse p s)) := by
  simp [serve, hr, commit]

/-- A taken request that owes no evaluation, put between two events. -/
theorem serve_taken_ready {b : β} {st : Status} {s' : State} {out : Out} (hr : s.ready) (ha : a.on p = true)
    (hl : body.length ≤ 248) (hp : parse body = some b) (hrun : run b s = .taken st s' out)
    (he : s'.evalDue = s.evalDue) :
    serve kind a p tag body parse run s = .next (answered p tag st out s') := by
  rw [serve_taken hr.1 ha hl hp hrun, runEval_of_not_due _ (he.trans hr.2.1)]

/-- A refused request with an empty body, put between two events. -/
theorem serve_refused_ready {b : β} {st : Status} (hr : s.ready) (ha : a.on p = true) (hl : body.length ≤ 248)
    (hp : parse body = some b) (hrun : run b s = .refused st []) :
    serve kind a p tag body parse run s = .next (refusedWith p kind tag st s) :=
  serve_refused hr.1 ha hl hp hrun

/-- All that a request can do: aborted in reset, refused with its state kept, or taken by its kind's own rule. -/
theorem serve_cases {t : State} (h : serve kind a p tag body parse run s = .next t) :
    (s.inReset = true ∧ t = driveAttention (noResponse p s)) ∨
    (s.inReset = false ∧ ∃ st out, t = answered p tag st out (latchRefusal p kind tag st s)) ∨
    (s.inReset = false ∧ ∃ b st s' out, parse body = some b ∧ run b s = .taken st s' out ∧
      t = answered p tag st out (runEval s')) := by
  by_cases hr : s.inReset = true
  · rw [serve_inReset hr] at h
    cases h
    exact Or.inl ⟨hr, rfl⟩
  · have hr' : s.inReset = false := by simpa using hr
    by_cases ha : a.on p = true
    · by_cases hl : 248 < body.length
      · rw [serve_malformed hr' ha (Or.inl hl)] at h
        cases h
        exact Or.inr (Or.inl ⟨hr', _, _, rfl⟩)
      · cases hp : parse body with
        | none =>
          rw [serve_malformed hr' ha (Or.inr hp)] at h
          cases h
          exact Or.inr (Or.inl ⟨hr', _, _, rfl⟩)
        | some b =>
          cases hrun : run b s with
          | taken st s' out =>
            rw [serve_taken hr' ha (by omega) hp hrun] at h
            cases h
            exact Or.inr (Or.inr ⟨hr', b, st, s', out, rfl, hrun, rfl⟩)
          | refused st out =>
            rw [serve_refused hr' ha (by omega) hp hrun] at h
            cases h
            exact Or.inr (Or.inl ⟨hr', _, _, rfl⟩)
    · have ha' : a.on p = false := by simpa using ha
      rw [serve_unsupported hr' ha'] at h
      cases h
      exact Or.inr (Or.inl ⟨hr', _, _, rfl⟩)

end

/-! ### The checks of a stack port (R21, R198) -/

theorem stackOnly_on_portOf (q : StackPort) : Permitted.stackOnly.on (portOf q) = true := by
  cases q <;> rfl

theorem everyPort_on (p : Port) : Permitted.everyPort.on p = true := by
  cases p <;> rfl

theorem boundTo_of_bound {s : State} {i : Sub} {q : StackPort} (h : (s.sub i).bound = some q) :
    s.boundTo i (portOf q) = true := by
  simp [State.boundTo, h]

/-- A request that names a subscription bound to its port passes the first two checks. -/
theorem withSub_bound {s : State} {i : Sub} {q : StackPort} {n : Nat} {k : Sub → Reply}
    (hb : (s.sub i).bound = some q) (hn : subOf n = some i) : withSub (portOf q) n s k = k i := by
  simp [withSub, hn, boundTo_of_bound hb]

/-- A live handle of a record whose subscription is bound to the port. -/
theorem withLive_live {s : State} {h n : Nat} {o : Occasion} {l : Bool} {q : StackPort} {k : Nat → Occasion → Reply}
    (hj : judge h s = .live n o l) (hb : (s.sub o.sub).bound = some q) : withLive (portOf q) h s k = k n o := by
  simp [withLive, hj, boundTo_of_bound hb]

/-- A refusal changes nothing but the latch and the queue of its own port (R200). -/
theorem latchRefusal_frame (p : Port) (kind tag : Octet) (st : Status) (s : State) :
    latchRefusal p kind tag st s = { s with ports := (latchRefusal p kind tag st s).ports } ∧
    ∀ q, q ≠ p → (latchRefusal p kind tag st s).unit q = s.unit q := by
  unfold latchRefusal
  split
  · exact ⟨rfl, fun _ _ => rfl⟩
  · dsimp only
    split
    · exact ⟨rfl, fun q hq => by simp [State.unit_modUnit, hq]⟩
    · exact ⟨rfl, fun q hq => by simp [post, State.unit_modUnit, hq]⟩

/-! ### An event that is due (R4) -/

section
variable {due : State → Bool} {take : State → State} {s : State}

theorem occur_due (hr : s.inReset = false) (hd : due s = true) :
    occur due take s = .next (driveAttention (runEval (take s))) := by
  simp [occur, hr, hd, commit]

theorem occur_not_due (h : s.inReset = true ∨ due s = false) : occur due take s = .next s := by
  rcases h with h | h <;> simp [occur, h]

/-- All that an event of the part can do: nothing, or its effect with the evaluation it owes. -/
theorem occur_cases {t : State} (h : occur due take s = .next t) :
    t = s ∨ (s.inReset = false ∧ due s = true ∧ t = driveAttention (runEval (take s))) := by
  unfold occur at h
  split at h
  · rename_i hc
    simp only [Bool.and_eq_true, Bool.not_eq_true'] at hc
    cases h
    exact Or.inr ⟨hc.1, hc.2, rfl⟩
  · cases h
    exact Or.inl rfl

theorem fire_not_due (h : due s = false) : fire due take s = s := by
  simp [fire, h]

end

/-- A fold of events none of which is due changes nothing. -/
theorem foldl_fire_not_due {α : Type} {due : α → State → Bool} {take : α → State → State} {s : State}
    (h : ∀ x, due x s = false) : ∀ l : List α, l.foldl (fun y x => fire (due x) (take x) y) s = s := by
  intro l
  induction l with
  | nil => rfl
  | cons x rest ih => rw [List.foldl_cons, fire_not_due (h x), ih]

/-- With nothing due, settling changes nothing. -/
theorem settle_of_nothingDue (s : State) (h : s.nothingDue) : settle s = s := by
  obtain ⟨h1, h2, h3, h4, h5, h6, h7, h8, h9, h10, h11, h12⟩ := h
  have h5a : ∀ l : List Sub, l.foldl (fun x i => fire (repeatDue i) (takeRepeat i) (fire (tttDue i) (takeTtt i) x)) s
      = s := by
    intro l
    induction l with
    | nil => rfl
    | cons i rest ih => rw [List.foldl_cons, fire_not_due (h5 i).1, fire_not_due (h5 i).2, ih]
  have h6a : ∀ l : List Sub, l.foldl (fun x i =>
      (List.range 16).foldl (fun y k => fire (barDue i k) (takeBar i k) y) x) s = s := by
    intro l
    induction l with
    | nil => rfl
    | cons i rest ih => rw [List.foldl_cons, foldl_fire_not_due (h6 i), ih]
  have h7a : ∀ l : List Nat, l.foldl (fun x i =>
      fire (timerDue .releasing i) (takeRelease i) (fire (timerDue .dialing i) (takeSetup i) x)) s = s := by
    intro l
    induction l with
    | nil => rfl
    | cons i rest ih => rw [List.foldl_cons, fire_not_due (h7 i).2, fire_not_due (h7 i).1, ih]
  unfold settle settleExpiries
  simp only [fire_not_due h1, fire_not_due h2, foldl_fire_not_due h3, fire_not_due h4, h5a, h6a, h7a,
    foldl_fire_not_due h8, fire_not_due h9, fire_not_due h10, fire_not_due h11, fire_not_due h12]

/-! ### The output of a transaction (R196, R208) -/

theorem drivenOctet_written (u : PortUnit) {n k : Nat} (h : k < n) : u.drivenOctet n k = fillOctet := by
  simp [PortUnit.drivenOctet, h]

theorem drivenOctet_read (u : PortUnit) {n k : Nat} {r : List Octet} (h : n ≤ k) (hr : u.response = some r) :
    u.drivenOctet n k = r.getD (k - n) fillOctet := by
  simp [PortUnit.drivenOctet, Nat.not_lt.mpr h, hr]

theorem drivenOctet_none (u : PortUnit) (n k : Nat) (h : u.response = none) : u.drivenOctet n k = fillOctet := by
  unfold PortUnit.drivenOctet
  rw [h]
  split <;> rfl

/-- The output of a transaction whose command answers a next state. -/
theorem transactionOctet_next (p : Port) (w : List Octet) {s t : State} (k : Nat)
    (h : exec (decodeFrame p w) s = .next t) :
    transactionOctet p w s k = (t.unit p).drivenOctet (writePhase w) k := by
  unfold transactionOctet
  rw [h]

/-- The write phase of a whole frame is the frame. -/
theorem writePhase_frame (kind tag : Octet) (body extra : List Octet) (h : body.length < 256) :
    writePhase (kind :: tag :: BitVec.ofNat 8 body.length :: (body ++ extra)) = 3 + body.length := by
  simp [writePhase, BitVec.toNat_ofNat, Nat.mod_eq_of_lt h]

/-! ### Events of several slots (R73, R201) -/

theorem postBound_frame (i : Sub) (e : Event) (s : State) : postBound i e s = { s with ports := (postBound i e s).ports } := by
  unfold postBound
  split <;> rfl

/-- Sending the OCC_LOST of a list of slots changes the ports alone. -/
theorem State.postLost_frame (s : State) (cause : Nat) : ∀ (l : List Nat) (t : State),
    ∃ ports, s.postLost cause l t = { t with ports := ports }
  | [], t => ⟨t.ports, rfl⟩
  | n :: l, t => by
    unfold State.postLost
    cases s.occ n with
    | none => exact State.postLost_frame s cause l t
    | some o =>
      obtain ⟨ports, h⟩ := State.postLost_frame s cause l (postBound o.sub (s.occLost n o cause) t)
      refine ⟨ports, h.trans ?_⟩
      rw [postBound_frame]

@[simp] theorem PortUnit.got_nil (u : PortUnit) : u.got [] u := ⟨rfl, rfl⟩

/-- What an arrival makes of the queue and the lost flag depends on these two alone. -/
theorem PortUnit.enqueue_congr {u v : PortUnit} (e : Event) (hq : u.queue = v.queue) (hl : u.lost = v.lost) :
    (u.enqueue e).queue = (v.enqueue e).queue ∧ (u.enqueue e).lost = (v.enqueue e).lost := by
  unfold PortUnit.enqueue
  rw [hq]
  split
  · exact ⟨rfl, hl⟩
  · split
    · exact ⟨rfl, rfl⟩
    · exact ⟨rfl, rfl⟩

theorem PortUnit.foldl_enqueue_congr (l : List Event) : ∀ {u v : PortUnit}, u.queue = v.queue → u.lost = v.lost →
    (l.foldl PortUnit.enqueue u).queue = (l.foldl PortUnit.enqueue v).queue ∧
    (l.foldl PortUnit.enqueue u).lost = (l.foldl PortUnit.enqueue v).lost := by
  induction l with
  | nil => exact fun hq hl => ⟨hq, hl⟩
  | cons e l ih => exact fun hq hl => ih (enqueue_congr e hq hl).1 (enqueue_congr e hq hl).2

/-- One arrival. -/
theorem PortUnit.got_enqueue (u : PortUnit) (e : Event) : u.got [e] (u.enqueue e) := ⟨rfl, rfl⟩

/-- Two lists of arrivals, one after the other. -/
theorem PortUnit.got_append {u v w : PortUnit} {l m : List Event} (h : u.got l v) (k : v.got m w) : u.got (l ++ m) w := by
  have c := PortUnit.foldl_enqueue_congr m h.1 h.2
  unfold PortUnit.got
  rw [List.foldl_append]
  exact ⟨k.1.trans c.1, k.2.trans c.2⟩

/-- An event at a port arrives there and nowhere else. -/
theorem got_post (p q : Port) (e : Event) (s : State) : (s.unit q).got (if q = p then [e] else []) ((post p e s).unit q) := by
  unfold post
  rw [State.unit_modUnit]
  by_cases h : q = p
  · subst h; simp [PortUnit.got]
  · simp [h, PortUnit.got]

/-! ### Changes of subscription state (R20, R30, R34, R35, R206) -/

/-- SUB_STATE of a state in which the subscription is neither CAMPED nor SWITCHING carries no cell code. -/
theorem sendSubState_resting (i : Sub) (c : Cause) (s : State) (h : (s.sub i).state.resting = true) :
    sendSubState i c s =
      post .apt (s.subStateEvent i (s.sub i).state (s.sub i).prior (s.sub i).miss 65535 c.code) s := by
  unfold sendSubState
  cases hs : (s.sub i).state <;> simp [hs, SubState.resting] at h ⊢ <;> rfl

/-- SUB_STATE of a CAMPED or SWITCHING subscription carries the code of its serving cell, all ones without one. -/
theorem sendSubState_serving (i : Sub) (c : Cause) (s : State) (h : (s.sub i).state.resting = false) :
    sendSubState i c s = post .apt (s.subStateEvent i (s.sub i).state (s.sub i).prior (s.sub i).miss
      (((servingCell s i).map Cell.code).getD 65535) c.code) s := by
  unfold sendSubState
  cases hs : (s.sub i).state <;> simp [hs, SubState.resting] at h ⊢ <;> cases servingCell s i <;> rfl

/-- With the staged-send-waiting flag clear an entry to CAMPED promotes nothing. -/
@[simp] theorem promoteIfWaiting_of_clear (i : Sub) (s : State) (h : (s.sub i).stagedWaiting = false) :
    promoteIfWaiting i s = s := by
  simp [promoteIfWaiting, h]

/-- Below the miss limit a grant-end notice does nothing (R29). -/
theorem compareMiss_of_below (i : Sub) (s : State) (h : (s.sub i).miss < s.sbt.missLimit) : compareMiss i s = s := by
  have : ¬ s.sbt.missLimit ≤ (s.sub i).miss := by omega
  simp [compareMiss, absentDue, this]

/-! ### What DETACHED and ABSENT show (R125) -/

theorem shownSwitch_of_active (s : State) (i : Sub) (h : (s.sub i).state.resting = false) : shownSwitch s i = [] := by
  simp [shownSwitch, h]

theorem shownHandover_of_active (s : State) (i : Sub) (h : (s.sub i).state.resting = false) : shownHandover s i = [] := by
  simp [shownHandover, h]

/-- With the trigger IDLE and no switch record, as R125 has them in DETACHED and ABSENT, CELL_TABLE_READ shows octet 0 for
the trigger and the absent record. -/
theorem shownHandover_of_resting (s : State) (i : Sub) (h : (s.sub i).state.resting = true)
    (ht : (s.watch i).trigger = .idle) (hs : (s.watch i).switchRec = none) :
    shownHandover s i = some 0 :: some 0 :: List.replicate 7 none := by
  simp only [shownHandover, h, ht, hs, if_true]
  rfl

end Sys2Proof.Machine
end

