-- ==== Sys2Proof/Laws/Keeps.lean ====
section
/-! SUPPORT. The frame that the shared operations of the blocks have in common: they leave the command queue, HT, the
sleep unit, the sleep lines and the window charge alone, and they keep table sizes and the grant's lines. Each law has
the form "kept up to here, then kept after one more operation", so that a composition is kept by applying its parts. -/
namespace Sys2Proof.Machine

/-- What an operation of a block keeps between two states of one event. -/
structure Keeps (s t : State) : Prop where
  pending : t.pending = s.pending
  ht : t.tlu.ht = s.tlu.ht
  source : t.tlu.source = s.tlu.source
  divider : t.tlu.divider = s.tlu.divider
  missLimit : t.sbt.missLimit = s.sbt.missLimit
  used : t.tgu.used = s.tgu.used
  allowance : t.tgu.a = s.tgu.a
  scu : t.scu = s.scu
  refEn : t.pins.refEn = s.pins.refEn
  trxPwr : t.pins.trxPwr = s.pins.trxPwr
  inReset : t.inReset = s.inReset
  freeCount : t.freeCount = s.freeCount
  sized : s.sized → t.sized
  grantLines : s.grantLines → t.grantLines
  anchorsInRange : s.anchorsInRange → t.anchorsInRange
  owed : (s.evalDue = false → s.evalWake = false) → t.evalDue = false → t.evalWake = false

namespace Keeps

theorem refl (s : State) : Keeps s s := ⟨rfl, rfl, rfl, rfl, rfl, rfl, rfl, rfl, rfl, rfl, rfl, rfl, id, id, id, id⟩

theorem trans {s t u : State} (h : Keeps s t) (k : Keeps t u) : Keeps s u where
  pending := k.pending.trans h.pending
  ht := k.ht.trans h.ht
  source := k.source.trans h.source
  divider := k.divider.trans h.divider
  missLimit := k.missLimit.trans h.missLimit
  used := k.used.trans h.used
  allowance := k.allowance.trans h.allowance
  scu := k.scu.trans h.scu
  refEn := k.refEn.trans h.refEn
  trxPwr := k.trxPwr.trans h.trxPwr
  inReset := k.inReset.trans h.inReset
  freeCount := k.freeCount.trans h.freeCount
  sized := fun x => k.sized (h.sized x)
  grantLines := fun x => k.grantLines (h.grantLines x)
  anchorsInRange := fun x => k.anchorsInRange (h.anchorsInRange x)
  owed := fun x => k.owed (h.owed x)

theorem now {s t : State} (h : Keeps s t) : t.now = s.now := h.ht

theorem ite {s t u : State} (c : Prop) [Decidable c] (h : Keeps s t) (k : Keeps s u) :
    Keeps s (if c then t else u) := by
  split
  · exact h
  · exact k

end Keeps

variable {s t : State}

/-! ### The setters -/

theorem keeps_modSub (i : Sub) (f : SubRecord → SubRecord) (h : Keeps s t) : Keeps s (t.modSub i f) :=
  h.trans ⟨rfl, rfl, rfl, rfl, rfl, rfl, rfl, rfl, rfl, rfl, rfl, rfl, id, id, id, id⟩

/-- An anchor that is set lies within one hyperframe of HT, or is absent (R6, R9). -/
theorem keeps_setAnchor (i : Sub) (v : Option HT) (hv : ∀ a, v = some a → position t.now a < 327680)
    (h : Keeps s t) : Keeps s (t.setAnchor i v) :=
  h.trans
    { Keeps.refl t with
      sized := id
      grantLines := id
      anchorsInRange := fun hr j a ha => by
        rcases Sub.eq_or_other i j with rfl | rfl
        · exact hv a (by simpa using ha)
        · exact hr _ a (by simpa using ha)
      owed := id }

theorem keeps_noteEval (h : Keeps s t) : Keeps s (noteEval t) :=
  h.trans ⟨rfl, rfl, rfl, rfl, rfl, rfl, rfl, rfl, rfl, rfl, rfl, rfl, id, id, id, fun _ e => by cases e⟩

theorem keeps_noteWake (w : Bool) (h : Keeps s t) : Keeps s (noteWake w t) :=
  h.trans ⟨rfl, rfl, rfl, rfl, rfl, rfl, rfl, rfl, rfl, rfl, rfl, rfl, id, id, id, fun _ e => by cases e⟩

/-- A port unit's queue stays within 32 entries when an event arrives (R201). -/
theorem PortUnit.enqueue_length (u : PortUnit) (e : Event) (h : u.queue.length ≤ 32) :
    (u.enqueue e).queue.length ≤ 32 := by
  unfold PortUnit.enqueue
  split
  · simp; omega
  · split
    · rename_i hc
      simp only [Bool.and_eq_true, List.any_eq_true] at hc
      obtain ⟨-, x, hx, hu⟩ := hc
      have := List.length_eraseP_of_mem (p := fun x : Event => !x.urgent) hx hu
      simp [this]; omega
    · exact h

theorem keeps_modUnit (p : Port) (f : PortUnit → PortUnit)
    (hf : ∀ u : PortUnit, u.queue.length ≤ 32 → (f u).queue.length ≤ 32) (h : Keeps s t) :
    Keeps s (t.modUnit p f) :=
  h.trans
    { Keeps.refl t with
      sized := fun ⟨h1, h2, h3, h4, h5, h6, h7⟩ => ⟨h1, h2, h3, h4, h5, h6, fun q => by
        rw [State.unit_modUnit]
        split
        · exact hf _ (h7 p)
        · exact h7 q⟩
      grantLines := id
      anchorsInRange := id
      owed := id }

theorem keeps_post (p : Port) (e : Event) (h : Keeps s t) : Keeps s (post p e t) :=
  keeps_modUnit p _ (fun u hu => PortUnit.enqueue_length u e hu) h

theorem keeps_postBound (i : Sub) (e : Event) (h : Keeps s t) : Keeps s (postBound i e t) := by
  unfold postBound
  split
  · exact keeps_post _ _ h
  · exact h

theorem keeps_modWatch (i : Sub) (f : Cwu → Cwu) (hf : ∀ w : Cwu, w.cells.length = 16 → (f w).cells.length = 16)
    (h : Keeps s t) : Keeps s (t.modWatch i f) :=
  h.trans
    { Keeps.refl t with
      sized := fun ⟨h1, h2, h3, h4, h5, h6, h7⟩ => ⟨h1, fun j => by
        rw [State.watch_modWatch]
        split
        · exact hf _ (h2 i)
        · exact h2 j, h3, h4, h5, h6, h7⟩
      grantLines := id
      anchorsInRange := id
      owed := id }

theorem keeps_modSlot (n : Nat) (f : CalSlot → CalSlot) (h : Keeps s t) : Keeps s (t.modSlot n f) :=
  h.trans
    { Keeps.refl t with
      sized := fun ⟨h1, h2⟩ => ⟨by simpa using h1, h2⟩
      grantLines := id
      anchorsInRange := id
      owed := id }

theorem keeps_setCtx (n : Nat) (c : CallCtx) (h : Keeps s t) : Keeps s (t.setCtx n c) :=
  h.trans
    { Keeps.refl t with
      sized := fun ⟨h1, h2, h3, h4⟩ => ⟨h1, h2, by simpa using h3, h4⟩
      grantLines := id
      anchorsInRange := id
      owed := id }

theorem keeps_modTxs (f : Txs → Txs)
    (hf : ∀ x : Txs, (f x).pool.length = x.pool.length ∧ (f x).entries.length = x.entries.length ∧
      (f x).sends.length = x.sends.length) (h : Keeps s t) : Keeps s (t.modTxs f) :=
  h.trans
    { Keeps.refl t with
      sized := fun ⟨h1, h2, h3, h4, h5, h6, h7⟩ => by
        obtain ⟨k1, k2, k3⟩ := hf t.txs
        exact ⟨h1, h2, h3, k1.trans h4, k2.trans h5, k3.trans h6, h7⟩
      grantLines := id
      anchorsInRange := id
      owed := id }

theorem keeps_setSend (n : Nat) (r : Option SendRec) (h : Keeps s t) : Keeps s (t.setSend n r) :=
  keeps_modTxs (fun x => { x with sends := x.sends.set n r }) (fun x => ⟨rfl, rfl, by simp⟩) h

/-- Ending the grant puts TRX_SEL to none and clears the class-3 hold (R74, R75, R142). -/
theorem keeps_dropGrant (h : Keeps s t) : Keeps s (dropGrant t) := by
  refine h.trans ?_
  unfold dropGrant
  split
  · rename_i g hg
    refine { Keeps.refl t with sized := id, grantLines := ?_, anchorsInRange := id, owed := fun _ e => by cases e }
    intro ⟨_, h2⟩
    refine ⟨fun _ => rfl, fun i => ?_⟩
    simp only [noteEval, PerSub.get_set]
    split
    · simp
    · rename_i hne
      rw [h2 i, hg]
      constructor
      · rintro ⟨g', e, e', _⟩
        cases e
        exact absurd e'.symm hne
      · simp
  · exact Keeps.refl t

/-! ### The calendar (R47, R50 to R52, R57, R58) -/

theorem keeps_noteInsertion (i : Sub) (a : HT) (h : Keeps s t) : Keeps s (noteInsertion i a t) := keeps_noteWake _ h

theorem keeps_markLate (n : Nat) (i : Sub) (h : Keeps s t) : Keeps s (markLate n i t) := keeps_modSlot _ _ h

theorem keeps_clearLate (n : Nat) (h : Keeps s t) : Keeps s (clearLate n t) := keeps_modSlot _ _ h

theorem keeps_leaveByRearm (n : Nat) (h : Keeps s t) : Keeps s (leaveByRearm n t) :=
  keeps_noteEval (keeps_modSlot _ _ h)

theorem keeps_leave (n : Nat) (h : Keeps s t) : Keeps s (leave n t) := keeps_noteEval (keeps_modSlot _ _ h)

theorem keeps_putWaiting (n : Nat) (o : Occasion) (a : HT) (h : Keeps s t) : Keeps s (putWaiting n o a t) :=
  keeps_noteInsertion _ _ (keeps_modSlot _ _ h)

theorem keeps_loseRetimed (n : Nat) (o : Occasion) (a : HT) (h : Keeps s t) : Keeps s (loseRetimed n o a t) :=
  keeps_postBound _ _ (keeps_leave _ h)

theorem keeps_placeCandidate (n : Nat) (o : Occasion) (c a : HT) (h : Keeps s t) :
    Keeps s (placeCandidate n o c a t) := by
  unfold placeCandidate
  exact .ite _ (keeps_putWaiting _ _ _ h)
    (.ite _ (keeps_loseRetimed _ _ _ h) (.ite _ (keeps_loseRetimed _ _ _ h) (keeps_putWaiting _ _ _ h)))

theorem keeps_align (d : Int) (n : Nat) (o : Occasion) (h : Keeps s t) : Keeps s (align d n o t) :=
  .ite _ (keeps_putWaiting _ _ _ h) (keeps_placeCandidate _ _ _ _ h)

theorem keeps_rearm (n : Nat) (o : Occasion) (h : Keeps s t) : Keeps s (rearm n o t) :=
  .ite _ (keeps_leaveByRearm _ h) (keeps_align _ _ _ h)

theorem keeps_resolve (r : Resolution) (n : Nat) (h : Keeps s t) : Keeps s (resolve r n t) := by
  unfold resolve
  split
  · exact keeps_rearm _ _ (.ite _ (keeps_markLate _ _ h) h)
  · exact h

theorem keeps_resolvePreempted (g : Grant) (h : Keeps s t) : Keeps s (resolvePreempted g t) := by
  unfold resolvePreempted
  split
  · exact keeps_resolve _ _ (keeps_postBound _ _ h)
  · exact h

theorem keeps_removeRecord {k : Sub → State → State} (hk : ∀ i x, Keeps x (k i x)) (n : Nat) (h : Keeps s t) :
    Keeps s (removeRecord k n t) := by
  unfold removeRecord
  split
  · exact keeps_leave _ (.ite _ ((keeps_dropGrant h).trans (hk _ _)) h)
  · exact h

theorem keeps_removeLinked {k : Sub → State → State} (hk : ∀ i x, Keeps x (k i x)) (c : Occasion → Bool)
    (cause : Cause) (l : List Nat) : ∀ {t : State}, Keeps s t → Keeps s (removeLinked k c cause l t) := by
  induction l with
  | nil => exact fun h => h
  | cons n rest ih =>
    intro t h
    unfold removeLinked
    split
    · split
      · exact ih (keeps_postBound _ _ (keeps_removeRecord hk _ h))
      · exact ih h
    · exact ih h

theorem keeps_removeForCall {k : Sub → State → State} (hk : ∀ i x, Keeps x (k i x)) (n : Nat) (h : Keeps s t) :
    Keeps s (removeForCall k n t) := keeps_removeLinked hk _ _ _ h

theorem keeps_removeForSend {k : Sub → State → State} (hk : ∀ i x, Keeps x (k i x)) (n : Nat) (h : Keeps s t) :
    Keeps s (removeForSend k n t) := keeps_removeLinked hk _ _ _ h

theorem keeps_retimeSlots (d : Int) (l : List Nat) : ∀ {t : State}, Keeps s t → Keeps s (retimeSlots d l t) := by
  induction l with
  | nil => exact fun h => h
  | cons n rest ih =>
    intro t h
    unfold retimeSlots
    split
    · exact ih (keeps_align _ _ _ h)
    · exact ih h

theorem keeps_retime (i : Sub) (old : Option HT) (new : HT) (h : Keeps s t) : Keeps s (retime i old new t) := by
  unfold retime
  split
  · exact keeps_retimeSlots _ _ h
  · exact h

/-- A normalised anchor is at most 327,679 ticks behind HT (R9). -/
theorem position_normalise_lt (ht a : HT) : position ht (normalise ht a) < 327680 := by
  have h1 : reduceHyper (ht - a) < 327680 := by
    unfold reduceHyper
    omega
  have h2 : ht - normalise ht a = BitVec.ofNat 32 (reduceHyper (ht - a)) := by
    unfold normalise
    generalize BitVec.ofNat 32 (reduceHyper (ht - a)) = m
    bv_omega
  rw [position, h2, BitVec.toNat_ofNat]
  omega

theorem keeps_setAnchorRetimed (i : Sub) (v : HT) (h : Keeps s t) : Keeps s (setAnchorRetimed i v t) :=
  keeps_retime _ _ _ (keeps_setAnchor _ _ (fun a ha => by
    cases ha
    exact position_normalise_lt _ _) h)

theorem keeps_makeRecord (o : Occasion) {n : Nat} {u : State} (hm : makeRecord o t = some (n, u)) (h : Keeps s t) :
    Keeps s u := by
  unfold makeRecord at hm
  split at hm
  · cases hm
    exact keeps_noteInsertion _ _ (keeps_modSlot _ _ h)
  · cases hm

/-! ### The text store (R149 to R156, R165 to R175) -/

theorem freeBuffers_length (bs : List Nat) : ∀ pool : List (Option (List Octet)),
    (freeBuffers bs pool).length = pool.length := by
  induction bs with
  | nil => exact fun _ => rfl
  | cons b rest ih =>
    intro pool
    have := ih (pool.set b none)
    simpa [freeBuffers] using this

theorem keeps_setEntry (n : Nat) (e : Reasm) (h : Keeps s t) : Keeps s (setEntry n e t) :=
  keeps_modTxs _ (fun _ => ⟨rfl, by simp, rfl⟩) h

theorem keeps_deliver (m : InMsg) (b : Bool) (l : List Nat) (d : HT) (h : Keeps s t) :
    Keeps s (deliver m b l d t) := by
  unfold deliver
  exact keeps_post _ _ (keeps_modTxs _ (fun _ => ⟨rfl, rfl, rfl⟩) h)

theorem keeps_finishEntry (n : Nat) (m : InMsg) (b : Bool) (l : List Nat) (h : Keeps s t) :
    Keeps s (finishEntry n m b l t) := by
  unfold finishEntry
  exact .ite _ (keeps_setEntry _ _ h) (keeps_deliver _ _ _ _ (keeps_setEntry _ _ h))

theorem keeps_discardEntry (n : Nat) (m : InMsg) (c : Cause) (h : Keeps s t) : Keeps s (discardEntry n m c t) :=
  keeps_post _ _ (keeps_setEntry _ _ (keeps_modTxs _ (fun _ => ⟨freeBuffers_length _ _, rfl, rfl⟩) h))

theorem keeps_promote (i : Sub) (h : Keeps s t) : Keeps s (promote i t) := by
  unfold promote
  split
  · split
    · exact keeps_postBound _ _ (keeps_modSub _ _ (keeps_modTxs _ (fun _ => ⟨rfl, rfl, rfl⟩) (keeps_setSend _ _ h)))
    · exact h
  · exact h

theorem keeps_promoteIfWaiting (i : Sub) (h : Keeps s t) : Keeps s (promoteIfWaiting i t) :=
  .ite _ (keeps_promote _ h) h

theorem keeps_activeEmptied (i : Sub) (h : Keeps s t) : Keeps s (activeEmptied i t) := by
  unfold activeEmptied
  split
  · exact .ite _ (keeps_promote _ h) (keeps_modSub _ _ h)
  · exact h

theorem keeps_freeSend (n : Nat) (r : SendRec) (h : Keeps s t) : Keeps s (freeSend n r t) :=
  keeps_modTxs _ (fun _ => ⟨freeBuffers_length _ _, rfl, rfl⟩) (keeps_setSend _ _ h)

theorem keeps_clearActive (i : Sub) (h : Keeps s t) : Keeps s (clearActive i t) :=
  keeps_modTxs _ (fun _ => ⟨rfl, rfl, rfl⟩) h

theorem keeps_finishSend {k : Sub → State → State} (hk : ∀ i x, Keeps x (k i x)) (n : Nat) (r : SendRec)
    (res : SendResult) (c : Option Cause) (h : Keeps s t) : Keeps s (finishSend k n r res c t) := by
  have h2 := keeps_removeForSend hk n (Keeps.ite (res.frees = true) (keeps_clearActive r.sub (keeps_freeSend n r h))
    (keeps_setSend n (some { r with state := .kept, result := some res, finishCause := c }) h))
  have h4 : ∀ e u, Keeps s u → Keeps s (if res.frees then activeEmptied r.sub (post .apt e u) else post .apt e u) :=
    fun e u hu => .ite _ (keeps_activeEmptied _ (keeps_post _ _ hu)) (keeps_post _ _ hu)
  unfold finishSend
  refine h4 _ _ ?_
  cases stopCause res c with
  | some sc => exact keeps_postBound _ _ h2
  | none => exact h2

theorem keeps_fatalStop {k : Sub → State → State} (hk : ∀ i x, Keeps x (k i x)) (i : Sub) (h : Keeps s t) :
    Keeps s (fatalStop k i t) := by
  unfold fatalStop
  split
  · split
    · exact .ite _ (keeps_finishSend hk _ _ _ _ h) h
    · exact h
  · exact h

/-! ### The call contexts (R76, R130, R141, R143) -/

theorem keeps_audioSel (v : Option StackPort) (h : Keeps s t) :
    Keeps s { t with cct := { t.cct with audioSel := v } } :=
  h.trans { Keeps.refl t with sized := id, grantLines := id, anchorsInRange := id, owed := id }

theorem keeps_updateAudio (n : Nat) (old : CtxState) (c : CallCtx) (h : Keeps s t) :
    Keeps s (updateAudio n old c t) := by
  unfold updateAudio
  exact .ite _ (.ite _ h (keeps_audioSel _ (keeps_setCtx _ _ h))) (.ite _ (keeps_audioSel _ (keeps_setCtx _ _ h)) h)

theorem keeps_examineGrant {k : Sub → State → State} (hk : ∀ i x, Keeps x (k i x)) (i : Sub) (h : Keeps s t) :
    Keeps s (examineGrant k i t) := by
  unfold examineGrant
  split
  · split
    · exact .ite _ (keeps_resolvePreempted _ ((keeps_dropGrant h).trans (hk _ _))) h
    · exact h
  · exact h

theorem keeps_noteContext (h : Keeps s t) : Keeps s (noteContext t) := keeps_noteWake _ h

theorem keeps_changeCtx {k : Sub → State → State} (hk : ∀ i x, Keeps x (k i x)) (n : Nat) (ch : CtxChange)
    {ev : State → State} (hev : ∀ x, Keeps x (ev x)) (h : Keeps s t) : Keeps s (changeCtx k n ch ev t) := by
  unfold changeCtx
  split
  · refine keeps_noteContext (keeps_post _ _ (Keeps.trans ?_ (hev _)))
    have h1 := fun old c => keeps_updateAudio n old c (keeps_setCtx n c h)
    refine .ite _ (keeps_removeForCall hk _ ?_) ?_
    · exact .ite _ (keeps_examineGrant hk _ (h1 _ _)) (h1 _ _)
    · exact .ite _ (keeps_examineGrant hk _ (h1 _ _)) (h1 _ _)
  · exact h

theorem keeps_postCall (kind : EventKind) (u : Bool) (n : Nat) (c : CallCtx) (cause : Option Cause) (d : List Octet)
    (h : Keeps s t) : Keeps s (postCall kind u n c cause d t) := by
  unfold postCall
  split
  · exact keeps_postBound _ _ h
  · exact h

theorem keeps_forceRelease {k : Sub → State → State} (hk : ∀ i x, Keeps x (k i x)) (i : Sub) (cause : Cause)
    (l : List Nat) : ∀ {t : State}, Keeps s t → Keeps s (forceRelease k i cause l t) := by
  induction l with
  | nil => exact fun h => h
  | cons n rest ih =>
    intro t h
    unfold forceRelease
    split
    · split
      · exact ih (keeps_changeCtx hk _ _ (fun x => Keeps.refl x) h)
      · exact ih h
    · exact ih h

/-! ### The cell watch (R93 to R104, R110 to R114) -/

theorem keeps_modEntry (i : Sub) (k : Nat) (f : CellEntry → CellEntry) (h : Keeps s t) : Keeps s (modEntry i k f t) :=
  keeps_modWatch _ _ (fun w hw => by simpa using hw) h

theorem keeps_servingChange (i : Sub) (k : Nat) (h : Keeps s t) : Keeps s (servingChange i k t) :=
  keeps_modSub _ _ (keeps_modWatch _ _ (fun w hw => by simpa using hw) h)

theorem keeps_idleTrigger (i : Sub) (h : Keeps s t) : Keeps s (idleTrigger i t) :=
  keeps_modWatch _ _ (fun _ hw => hw) h

theorem keeps_clearEval (i : Sub) (h : Keeps s t) : Keeps s (clearEval i t) := keeps_modWatch _ _ (fun _ hw => hw) h

theorem keeps_setTrigger (i : Sub) (x : Trigger) (h : Keeps s t) : Keeps s (setTrigger i x t) :=
  keeps_modWatch _ _ (fun _ hw => hw) h

theorem keeps_campServing (i : Sub) (c : Cell) (h : Keeps s t) : Keeps s (campServing i c t) := by
  unfold campServing
  split
  · refine keeps_clearEval _ (keeps_idleTrigger _ ?_)
    have h1 : ∀ (b : Bool) (k : Nat) (f : CellEntry → CellEntry), Keeps s (if b then modEntry i k f t else t) :=
      fun b k f => .ite _ (keeps_modEntry _ _ _ h) h
    split
    · exact .ite _ (keeps_modSub _ _ (h1 _ _ _)) (keeps_servingChange _ _ (h1 _ _ _))
    · exact h1 _ _ _
  · exact keeps_clearEval _ (keeps_idleTrigger _ h)

theorem keeps_reportCandidate (i : Sub) (c : Nat) (h : Keeps s t) : Keeps s (reportCandidate i c t) := by
  unfold reportCandidate
  dsimp only
  split
  · split
    · exact keeps_postBound _ _ (keeps_setTrigger _ _ h)
    · exact keeps_setTrigger _ _ h
  · exact keeps_setTrigger _ _ h

theorem keeps_triggerFinding (i : Sub) (b : Option Nat) (h : Keeps s t) : Keeps s (triggerFinding i b t) := by
  unfold triggerFinding
  split
  · exact h
  · exact .ite _ (keeps_reportCandidate _ _ h) (keeps_setTrigger _ _ h)
  · exact keeps_setTrigger _ _ h
  · refine .ite _ h ?_
    split <;> exact keeps_setTrigger _ _ h
  · exact keeps_postBound _ _ (keeps_setTrigger _ _ h)
  · exact keeps_setTrigger _ _ h

theorem keeps_evaluateCells (i : Sub) (h : Keeps s t) : Keeps s (evaluateCells i t) := by
  unfold evaluateCells
  exact keeps_triggerFinding _ _ (keeps_modWatch _ _ (fun _ hw => hw) h)

theorem keeps_takeTtt (i : Sub) (h : Keeps s t) : Keeps s (takeTtt i t) := by
  unfold takeTtt
  split
  · exact keeps_reportCandidate _ _ h
  · exact h

theorem keeps_takeRepeat (i : Sub) (h : Keeps s t) : Keeps s (takeRepeat i t) := by
  unfold takeRepeat
  split
  · split
    · split
      · exact keeps_reportCandidate _ _ h
      · exact keeps_postBound _ _ (keeps_setTrigger _ _ h)
    · exact keeps_postBound _ _ (keeps_setTrigger _ _ h)
  · exact h

theorem keeps_setBar (i : Sub) (k : Nat) (h : Keeps s t) : Keeps s (setBar i k t) := keeps_modEntry _ _ _ h

theorem keeps_takeBar (i : Sub) (k : Nat) (h : Keeps s t) : Keeps s (takeBar i k t) := keeps_modEntry _ _ _ h

theorem keeps_applyConfig (i : Sub) (g : StagedConfig) (h : Keeps s t) : Keeps s (applyConfig i g t) := by
  have h1 := keeps_modWatch i (fun w => { w with config := w.config.over g }) (fun _ hw => hw) h
  unfold applyConfig
  dsimp only
  split
  · exact .ite _ (keeps_takeTtt _ (keeps_setTrigger _ _ h1)) (keeps_setTrigger _ _ h1)
  · exact h1

theorem keeps_applyStaged (i : Sub) (h : Keeps s t) : Keeps s (applyStaged i t) :=
  keeps_modWatch _ _ (fun _ hw => hw) (keeps_applyConfig _ _ h)

/-! ### The subscriptions (R20, R27 to R30, R85, R119 to R123) -/

theorem keeps_setSubState (i : Sub) (st : SubState) (h : Keeps s t) : Keeps s (setSubState i st t) :=
  keeps_modSub _ _ h

theorem keeps_sendSubState (i : Sub) (c : Cause) (h : Keeps s t) : Keeps s (sendSubState i c t) := keeps_post _ _ h

theorem keeps_passOver (l : List Nat) : ∀ {t : State}, Keeps s t → Keeps s (passOver l t) := by
  induction l with
  | nil => exact fun h => h
  | cons n rest ih =>
    intro t h
    exact ih (keeps_resolve _ _ h)

theorem keeps_passOverGrant (i : Sub) (h : Keeps s t) : Keeps s (passOverGrant i t) := by
  unfold passOverGrant
  split
  · exact .ite _ (keeps_resolve _ _ (keeps_dropGrant h)) h
  · exact h

theorem keeps_quiet (_ : Sub) (x : State) : Keeps x x := Keeps.refl x

theorem keeps_absentEntry (i : Sub) (h : Keeps s t) : Keeps s (absentEntry i t) :=
  keeps_sendSubState _ _ (keeps_fatalStop keeps_quiet _ (keeps_forceRelease keeps_quiet _ _ _ (keeps_clearEval _
    (keeps_idleTrigger _ (keeps_passOver _ (keeps_passOverGrant _ (keeps_setSubState _ _ h)))))))

theorem keeps_compareMiss (i : Sub) (h : Keeps s t) : Keeps s (compareMiss i t) :=
  .ite _ (keeps_absentEntry _ h) h

/-- The grant-end notice of R85, as the operations that take it as an argument need it. -/
theorem compareMiss_keeps (i : Sub) (x : State) : Keeps x (compareMiss i x) := keeps_compareMiss i (Keeps.refl x)

theorem keeps_missNotice (i : Sub) (h : Keeps s t) : Keeps s (missNotice i t) :=
  keeps_compareMiss _ (keeps_modSub _ _ h)

theorem keeps_confirmNotice (i : Sub) (h : Keeps s t) : Keeps s (confirmNotice i t) := keeps_modSub _ _ h

theorem keeps_releaseGrant (h : Keeps s t) : Keeps s (releaseGrant t) := by
  unfold releaseGrant
  split
  · exact keeps_compareMiss _ (keeps_dropGrant h)
  · exact h

theorem keeps_completeClose (i : Sub) (late : Bool) (h : Keeps s t) : Keeps s (completeClose i late t) := by
  have h3 := keeps_sendSubState i .switchClosed (keeps_setSubState i .camped (keeps_idleTrigger i (keeps_applyStaged i
    (keeps_modWatch i (fun w => { w with switchRec := none, lateClose := late }) (fun _ hw => hw) h))))
  exact .ite _ (keeps_absentEntry _ h3) (keeps_promoteIfWaiting _ h3)

theorem keeps_closeByPart (i : Sub) (c : Cause) (h : Keeps s t) : Keeps s (closeByPart i c t) := by
  unfold closeByPart
  split
  · exact keeps_completeClose _ _ (keeps_postBound _ _ (keeps_setBar _ _ h))
  · exact h

theorem keeps_removeAll (l : List Nat) : ∀ {t : State}, Keeps s t → Keeps s (removeAll l t) := by
  induction l with
  | nil => exact fun h => h
  | cons n rest ih =>
    intro t h
    exact ih (keeps_removeRecord keeps_quiet _ h)

theorem keeps_removeRecords (i : Sub) (h : Keeps s t) : Keeps s (removeRecords i t) :=
  .ite _ (keeps_compareMiss _ (keeps_removeAll _ h)) (keeps_removeAll _ h)

theorem keeps_clearWatch (i : Sub) (h : Keeps s t) : Keeps s (clearWatch i t) :=
  keeps_applyStaged _ (keeps_modSub _ _ (keeps_modWatch _ _ (fun _ _ => by simp) h))

theorem keeps_teardown (i : Sub) (h : Keeps s t) : Keeps s (teardown i t) :=
  keeps_sendSubState _ _ (keeps_setSubState _ _ (keeps_modSub _ _ (keeps_fatalStop keeps_quiet _
    (keeps_forceRelease keeps_quiet _ _ _ (keeps_setAnchor _ _ (fun a ha => by cases ha) (keeps_clearWatch _ (keeps_removeRecords _ h)))))))

/-! ### The grant unit and the expiries (R66 to R69, R73, R74, R79, R113, R139, R140, R155) -/

theorem keeps_endGrant (h : Keeps s t) : Keeps s (endGrant t) := by
  unfold endGrant
  split
  · exact keeps_dropGrant (keeps_modSlot _ _ h)
  · exact h

theorem keeps_takeEnd (h : Keeps s t) : Keeps s (takeEnd t) := by
  unfold takeEnd
  split
  · exact keeps_compareMiss _ (keeps_endGrant h)
  · exact h

theorem keeps_takeGrace (n : Nat) (h : Keeps s t) : Keeps s (takeGrace n t) := by
  unfold takeGrace
  split
  · refine keeps_noteEval ?_
    split
    · exact keeps_closeByPart _ _ (keeps_resolve _ _ h)
    · exact keeps_missNotice _ (keeps_postBound _ _ (keeps_resolve _ _ h))
    · exact keeps_postBound _ _ (keeps_resolve _ _ h)
  · exact h

theorem keeps_loseStarter (c : Cause) (n : Nat) (h : Keeps s t) : Keeps s (loseStarter c n t) := by
  unfold loseStarter
  split
  · exact keeps_postBound _ _ (keeps_resolve _ _ h)
  · exact h

theorem keeps_lose (r : StartRun) (c : Cause) (n : Nat) (h : Keeps s r.state) : Keeps s (r.lose c n).state := by
  unfold StartRun.lose
  split
  · exact keeps_loseStarter _ _ h
  · exact h

theorem keeps_holdStep (l : List Nat) : ∀ (r : StartRun), Keeps s r.state → Keeps s (holdStep l r).1.state := by
  induction l with
  | nil => exact fun _ h => h
  | cons n rest ih =>
    intro r h
    unfold holdStep
    split
    · split
      · exact ih _ (keeps_resolve _ _ h)
      · split
        · exact ih _ h
        · exact ih _ (keeps_lose _ _ _ h)
      · exact ih _ h
    · exact ih _ h

theorem keeps_policyStep (l : List Nat) : ∀ (r : StartRun), Keeps s r.state → Keeps s (policyStep l r).state := by
  induction l with
  | nil => exact fun _ h => h
  | cons n rest ih =>
    intro r h
    unfold policyStep
    split
    · split
      · split
        · split
          · exact ih _ h
          · exact ih _ (keeps_lose _ _ _ h)
        · exact ih _ (keeps_lose _ _ _ h)
      · exact ih _ h
    · exact ih _ h

theorem keeps_loseAll (c : Cause) (l : List Nat) : ∀ (r : StartRun), Keeps s r.state → Keeps s (loseAll c l r).state := by
  induction l with
  | nil => exact fun _ h => h
  | cons n rest ih => exact fun r h => ih _ (keeps_lose _ _ _ h)

theorem keeps_readyStep (r : StartRun) (h : Keeps s r.state) : Keeps s (readyStep r).state := by
  unfold readyStep
  split
  · split
    · exact h
    · exact keeps_post _ _ (keeps_loseAll _ _ _ h)
  · exact h

theorem keeps_preemptGrant (g : Grant) (h : Keeps s t) : Keeps s (preemptGrant g t) :=
  keeps_resolvePreempted _ (keeps_dropGrant h)

theorem keeps_giveNotices (l : List Sub) : ∀ {t : State}, Keeps s t → Keeps s (giveNotices l t) := by
  induction l with
  | nil => exact fun h => h
  | cons i rest ih => exact fun h => ih (keeps_compareMiss _ h)

theorem keeps_closeLost (l : List (Sub × Cause)) : ∀ {t : State}, Keeps s t → Keeps s (closeLost l t) := by
  induction l with
  | nil => exact fun h => h
  | cons x rest ih => exact fun h => ih (keeps_closeByPart _ _ h)

theorem keeps_clearLates (l : List Nat) : ∀ {t : State}, Keeps s t → Keeps s (clearLates l t) := by
  induction l with
  | nil => exact fun h => h
  | cons n rest ih => exact fun h => ih (keeps_clearLate _ h)

theorem keeps_takeSetup (n : Nat) (h : Keeps s t) : Keeps s (takeSetup n t) := by
  unfold takeSetup
  split
  · exact keeps_changeCtx compareMiss_keeps _ _ (fun x => keeps_postCall _ _ _ _ _ _ (Keeps.refl x)) h
  · exact h

theorem keeps_takeRelease (n : Nat) (h : Keeps s t) : Keeps s (takeRelease n t) := by
  unfold takeRelease
  split
  · exact keeps_changeCtx compareMiss_keeps _ _ (fun x => Keeps.refl x) h
  · exact h

theorem keeps_takeReassembly (n : Nat) (h : Keeps s t) : Keeps s (takeReassembly n t) := by
  unfold takeReassembly
  split
  · exact .ite _ (keeps_finishEntry _ _ _ _ h) (keeps_discardEntry _ _ _ h)
  · exact h

end Sys2Proof.Machine
end

