-- ==== Sys2Proof/Laws/PerInstr.lean ====
section
/-! SUPPORT. Laws stated once for each command. -/
namespace Sys2Proof.Laws

/-- A well-formed request is the request its kind code names: the kind, tag and body of its frame spell it and no other
(R197, R198). A command that is no request has no frame and the law holds of it for want of one. -/
def RequestOfKind.Statement (i : Instr) : Prop :=
  i.wf = true → ∀ p kind tag body, i.request? = some (p, kind, tag, body) → requestOfKind p kind tag body = i

theorem RequestOfKind.powerOnReset : RequestOfKind.Statement .powerOnReset := by
  intro _ _ _ _ _ e
  cases e

theorem RequestOfKind.transactionAborted (p : Port) : RequestOfKind.Statement (.transactionAborted p) := by
  intro _ _ _ _ _ e
  cases e

theorem RequestOfKind.refReady : RequestOfKind.Statement .refReady := by
  intro _ _ _ _ _ e
  cases e

theorem RequestOfKind.htTick : RequestOfKind.Statement .htTick := by
  intro _ _ _ _ _ e
  cases e

theorem RequestOfKind.slowCycle (fast : Nat) : RequestOfKind.Statement (.slowCycle fast) := by
  intro _ _ _ _ _ e
  cases e

theorem RequestOfKind.anchorAdvance (sub : Sub) : RequestOfKind.Statement (.anchorAdvance sub) := by
  intro _ _ _ _ _ e
  cases e

theorem RequestOfKind.occasionStart : RequestOfKind.Statement .occasionStart := by
  intro _ _ _ _ _ e
  cases e

theorem RequestOfKind.occasionEnd : RequestOfKind.Statement .occasionEnd := by
  intro _ _ _ _ _ e
  cases e

theorem RequestOfKind.graceExpiry (slot : Nat) : RequestOfKind.Statement (.graceExpiry slot) := by
  intro _ _ _ _ _ e
  cases e

theorem RequestOfKind.windowOpening : RequestOfKind.Statement .windowOpening := by
  intro _ _ _ _ _ e
  cases e

theorem RequestOfKind.tttExpiry (sub : Sub) : RequestOfKind.Statement (.tttExpiry sub) := by
  intro _ _ _ _ _ e
  cases e

theorem RequestOfKind.repeatExpiry (sub : Sub) : RequestOfKind.Statement (.repeatExpiry sub) := by
  intro _ _ _ _ _ e
  cases e

theorem RequestOfKind.barExpiry (sub : Sub) (entry : Nat) : RequestOfKind.Statement (.barExpiry sub entry) := by
  intro _ _ _ _ _ e
  cases e

theorem RequestOfKind.setupExpiry (ctx : Nat) : RequestOfKind.Statement (.setupExpiry ctx) := by
  intro _ _ _ _ _ e
  cases e

theorem RequestOfKind.releaseExpiry (ctx : Nat) : RequestOfKind.Statement (.releaseExpiry ctx) := by
  intro _ _ _ _ _ e
  cases e

theorem RequestOfKind.reassemblyTimeout (entry : Nat) : RequestOfKind.Statement (.reassemblyTimeout entry) := by
  intro _ _ _ _ _ e
  cases e

theorem RequestOfKind.recalibrationExpiry : RequestOfKind.Statement .recalibrationExpiry := by
  intro _ _ _ _ _ e
  cases e

theorem RequestOfKind.calibrationComplete (fast : Nat) : RequestOfKind.Statement (.calibrationComplete fast) := by
  intro _ _ _ _ _ e
  cases e

theorem RequestOfKind.wakeTimerExpiry : RequestOfKind.Statement .wakeTimerExpiry := by
  intro _ _ _ _ _ e
  cases e

theorem RequestOfKind.dozePowerUpExpiry : RequestOfKind.Statement .dozePowerUpExpiry := by
  intro _ _ _ _ _ e
  cases e

theorem RequestOfKind.timeRead (p : Port) (tag : Octet) (body : List Octet) : RequestOfKind.Statement (.timeRead p tag body) := by
  intro _ _ _ _ _ e
  cases e
  rfl

theorem RequestOfKind.anchorAdjust (p : Port) (tag : Octet) (body : List Octet) : RequestOfKind.Statement (.anchorAdjust p tag body) := by
  intro _ _ _ _ _ e
  cases e
  rfl

theorem RequestOfKind.bind (p : Port) (tag : Octet) (body : List Octet) : RequestOfKind.Statement (.bind p tag body) := by
  intro _ _ _ _ _ e
  cases e
  rfl

theorem RequestOfKind.unbind (p : Port) (tag : Octet) (body : List Octet) : RequestOfKind.Statement (.unbind p tag body) := by
  intro _ _ _ _ _ e
  cases e
  rfl

theorem RequestOfKind.camp (p : Port) (tag : Octet) (body : List Octet) : RequestOfKind.Statement (.camp p tag body) := by
  intro _ _ _ _ _ e
  cases e
  rfl

theorem RequestOfKind.detach (p : Port) (tag : Octet) (body : List Octet) : RequestOfKind.Statement (.detach p tag body) := by
  intro _ _ _ _ _ e
  cases e
  rfl

theorem RequestOfKind.resume (p : Port) (tag : Octet) (body : List Octet) : RequestOfKind.Statement (.resume p tag body) := by
  intro _ _ _ _ _ e
  cases e
  rfl

theorem RequestOfKind.partStatus (p : Port) (tag : Octet) (body : List Octet) : RequestOfKind.Statement (.partStatus p tag body) := by
  intro _ _ _ _ _ e
  cases e
  rfl

theorem RequestOfKind.policySet (p : Port) (tag : Octet) (body : List Octet) : RequestOfKind.Statement (.policySet p tag body) := by
  intro _ _ _ _ _ e
  cases e
  rfl

theorem RequestOfKind.occSubmit (p : Port) (tag : Octet) (body : List Octet) : RequestOfKind.Statement (.occSubmit p tag body) := by
  intro _ _ _ _ _ e
  cases e
  rfl

theorem RequestOfKind.occCancel (p : Port) (tag : Octet) (body : List Octet) : RequestOfKind.Statement (.occCancel p tag body) := by
  intro _ _ _ _ _ e
  cases e
  rfl

theorem RequestOfKind.occPeriod (p : Port) (tag : Octet) (body : List Octet) : RequestOfKind.Statement (.occPeriod p tag body) := by
  intro _ _ _ _ _ e
  cases e
  rfl

theorem RequestOfKind.occList (p : Port) (tag : Octet) (body : List Octet) : RequestOfKind.Statement (.occList p tag body) := by
  intro _ _ _ _ _ e
  cases e
  rfl

theorem RequestOfKind.occDone (p : Port) (tag : Octet) (body : List Octet) : RequestOfKind.Statement (.occDone p tag body) := by
  intro _ _ _ _ _ e
  cases e
  rfl

theorem RequestOfKind.cellListSet (p : Port) (tag : Octet) (body : List Octet) : RequestOfKind.Statement (.cellListSet p tag body) := by
  intro _ _ _ _ _ e
  cases e
  rfl

theorem RequestOfKind.measReport (p : Port) (tag : Octet) (body : List Octet) : RequestOfKind.Statement (.measReport p tag body) := by
  intro _ _ _ _ _ e
  cases e
  rfl

theorem RequestOfKind.cellTableRead (p : Port) (tag : Octet) (body : List Octet) : RequestOfKind.Statement (.cellTableRead p tag body) := by
  intro _ _ _ _ _ e
  cases e
  rfl

theorem RequestOfKind.cellConfig (p : Port) (tag : Octet) (body : List Octet) : RequestOfKind.Statement (.cellConfig p tag body) := by
  intro _ _ _ _ _ e
  cases e
  rfl

theorem RequestOfKind.switchBegin (p : Port) (tag : Octet) (body : List Octet) : RequestOfKind.Statement (.switchBegin p tag body) := by
  intro _ _ _ _ _ e
  cases e
  rfl

theorem RequestOfKind.switchEnd (p : Port) (tag : Octet) (body : List Octet) : RequestOfKind.Statement (.switchEnd p tag body) := by
  intro _ _ _ _ _ e
  cases e
  rfl

theorem RequestOfKind.candidateDecline (p : Port) (tag : Octet) (body : List Octet) : RequestOfKind.Statement (.candidateDecline p tag body) := by
  intro _ _ _ _ _ e
  cases e
  rfl

theorem RequestOfKind.callDial (p : Port) (tag : Octet) (body : List Octet) : RequestOfKind.Statement (.callDial p tag body) := by
  intro _ _ _ _ _ e
  cases e
  rfl

theorem RequestOfKind.callAnswer (p : Port) (tag : Octet) (body : List Octet) : RequestOfKind.Statement (.callAnswer p tag body) := by
  intro _ _ _ _ _ e
  cases e
  rfl

theorem RequestOfKind.callHold (p : Port) (tag : Octet) (body : List Octet) : RequestOfKind.Statement (.callHold p tag body) := by
  intro _ _ _ _ _ e
  cases e
  rfl

theorem RequestOfKind.callResume (p : Port) (tag : Octet) (body : List Octet) : RequestOfKind.Statement (.callResume p tag body) := by
  intro _ _ _ _ _ e
  cases e
  rfl

theorem RequestOfKind.callHangup (p : Port) (tag : Octet) (body : List Octet) : RequestOfKind.Statement (.callHangup p tag body) := by
  intro _ _ _ _ _ e
  cases e
  rfl

theorem RequestOfKind.callIncoming (p : Port) (tag : Octet) (body : List Octet) : RequestOfKind.Statement (.callIncoming p tag body) := by
  intro _ _ _ _ _ e
  cases e
  rfl

theorem RequestOfKind.callProgress (p : Port) (tag : Octet) (body : List Octet) : RequestOfKind.Statement (.callProgress p tag body) := by
  intro _ _ _ _ _ e
  cases e
  rfl

theorem RequestOfKind.callList (p : Port) (tag : Octet) (body : List Octet) : RequestOfKind.Statement (.callList p tag body) := by
  intro _ _ _ _ _ e
  cases e
  rfl

theorem RequestOfKind.callConfig (p : Port) (tag : Octet) (body : List Octet) : RequestOfKind.Statement (.callConfig p tag body) := by
  intro _ _ _ _ _ e
  cases e
  rfl

theorem RequestOfKind.textSegmentIn (p : Port) (tag : Octet) (body : List Octet) : RequestOfKind.Statement (.textSegmentIn p tag body) := by
  intro _ _ _ _ _ e
  cases e
  rfl

theorem RequestOfKind.textList (p : Port) (tag : Octet) (body : List Octet) : RequestOfKind.Statement (.textList p tag body) := by
  intro _ _ _ _ _ e
  cases e
  rfl

theorem RequestOfKind.textRead (p : Port) (tag : Octet) (body : List Octet) : RequestOfKind.Statement (.textRead p tag body) := by
  intro _ _ _ _ _ e
  cases e
  rfl

theorem RequestOfKind.textRelease (p : Port) (tag : Octet) (body : List Octet) : RequestOfKind.Statement (.textRelease p tag body) := by
  intro _ _ _ _ _ e
  cases e
  rfl

theorem RequestOfKind.textConfig (p : Port) (tag : Octet) (body : List Octet) : RequestOfKind.Statement (.textConfig p tag body) := by
  intro _ _ _ _ _ e
  cases e
  rfl

theorem RequestOfKind.textCompose (p : Port) (tag : Octet) (body : List Octet) : RequestOfKind.Statement (.textCompose p tag body) := by
  intro _ _ _ _ _ e
  cases e
  rfl

theorem RequestOfKind.textFill (p : Port) (tag : Octet) (body : List Octet) : RequestOfKind.Statement (.textFill p tag body) := by
  intro _ _ _ _ _ e
  cases e
  rfl

theorem RequestOfKind.textCommit (p : Port) (tag : Octet) (body : List Octet) : RequestOfKind.Statement (.textCommit p tag body) := by
  intro _ _ _ _ _ e
  cases e
  rfl

theorem RequestOfKind.textAbandon (p : Port) (tag : Octet) (body : List Octet) : RequestOfKind.Statement (.textAbandon p tag body) := by
  intro _ _ _ _ _ e
  cases e
  rfl

theorem RequestOfKind.textSendStatus (p : Port) (tag : Octet) (body : List Octet) : RequestOfKind.Statement (.textSendStatus p tag body) := by
  intro _ _ _ _ _ e
  cases e
  rfl

theorem RequestOfKind.textSendClose (p : Port) (tag : Octet) (body : List Octet) : RequestOfKind.Statement (.textSendClose p tag body) := by
  intro _ _ _ _ _ e
  cases e
  rfl

theorem RequestOfKind.textTake (p : Port) (tag : Octet) (body : List Octet) : RequestOfKind.Statement (.textTake p tag body) := by
  intro _ _ _ _ _ e
  cases e
  rfl

theorem RequestOfKind.textSegmentResult (p : Port) (tag : Octet) (body : List Octet) : RequestOfKind.Statement (.textSegmentResult p tag body) := by
  intro _ _ _ _ _ e
  cases e
  rfl

theorem RequestOfKind.sleepVote (p : Port) (tag : Octet) (body : List Octet) : RequestOfKind.Statement (.sleepVote p tag body) := by
  intro _ _ _ _ _ e
  cases e
  rfl

theorem RequestOfKind.sleepConfig (p : Port) (tag : Octet) (body : List Octet) : RequestOfKind.Statement (.sleepConfig p tag body) := by
  intro _ _ _ _ _ e
  cases e
  rfl

theorem RequestOfKind.calibrate (p : Port) (tag : Octet) (body : List Octet) : RequestOfKind.Statement (.calibrate p tag body) := by
  intro _ _ _ _ _ e
  cases e
  rfl

theorem RequestOfKind.fetchEvents (p : Port) (tag : Octet) (body : List Octet) : RequestOfKind.Statement (.fetchEvents p tag body) := by
  intro _ _ _ _ _ e
  cases e
  rfl

theorem RequestOfKind.eventConfig (p : Port) (tag : Octet) (body : List Octet) : RequestOfKind.Statement (.eventConfig p tag body) := by
  intro _ _ _ _ _ e
  cases e
  rfl

theorem RequestOfKind.clearRefusal (p : Port) (tag : Octet) (body : List Octet) : RequestOfKind.Statement (.clearRefusal p tag body) := by
  intro _ _ _ _ _ e
  cases e
  rfl

theorem RequestOfKind.portReset (p : Port) (tag : Octet) (body : List Octet) : RequestOfKind.Statement (.portReset p tag body) := by
  intro _ _ _ _ _ e
  cases e
  rfl

theorem RequestOfKind.partReset (p : Port) (tag : Octet) (body : List Octet) : RequestOfKind.Statement (.partReset p tag body) := by
  intro _ _ _ _ _ e
  cases e
  rfl

theorem RequestOfKind.resetPinAsserted : RequestOfKind.Statement .resetPinAsserted := by
  intro _ _ _ _ _ e
  cases e

theorem RequestOfKind.unsupportedRequest (p : Port) (kind tag : Octet) (body : List Octet) : RequestOfKind.Statement (.unsupportedRequest p kind tag body) := by
  intro h p' k' t' b' e
  cases e
  have hk : kind.toNat = 0 ∨ 51 < kind.toNat := by
    simp only [Instr.wf, Bool.and_eq_true, Bool.or_eq_true, decide_eq_true_eq] at h
    rcases h.1 with h0 | h0
    · left
      rw [beq_iff_eq] at h0
      simp [h0]
    · exact Or.inr h0
  unfold requestOfKind
  split <;> first | rfl | omega

end Sys2Proof.Laws
end

