-- ==== Sys2Proof/Tests/Slice0.lean ====
section
/-! SUPPORT. Tests of the model: ill-formed commands refused, worked values of the manual, and for each statement with
hypotheses a state and operands that meet them. -/
namespace Sys2Proof.Tests
open Sys2Proof.Machine

/-! ### Ill-formed commands -/

theorem test_wf_refuses_slot_48 : (Instr.graceExpiry 48).wf = false := by decide
theorem test_wf_takes_slot_47 : (Instr.graceExpiry 47).wf = true := by decide
theorem test_wf_refuses_entry_16 : (Instr.barExpiry .sub0 16).wf = false := by decide
theorem test_wf_refuses_setup_of_context_4 : (Instr.setupExpiry 4).wf = false := by decide
theorem test_wf_refuses_release_of_context_4 : (Instr.releaseExpiry 4).wf = false := by decide
theorem test_wf_refuses_reassembly_entry_8 : (Instr.reassemblyTimeout 8).wf = false := by decide
theorem test_wf_refuses_unsupported_of_kind_1 : (Instr.unsupportedRequest .apt 1 0 []).wf = false := by decide
theorem test_wf_takes_unsupported_of_kind_52 : (Instr.unsupportedRequest .apt 52 0 []).wf = true := by decide
theorem test_wf_refuses_a_body_of_256 : (Instr.timeRead .apt 0 (List.replicate 256 0)).wf = false := by decide +kernel
theorem test_wf_takes_a_body_of_255 : (Instr.timeRead .apt 0 (List.replicate 255 0)).wf = true := by decide +kernel
theorem test_no_row_has_bits : decodeTableWord 8 0 = none := by decide

/-! ### Small states -/

/-- A port unit with nothing in it and its lines low. -/
def still : PortUnit :=
  { queue := [], lost := false, latch := none, oneLine := false, maskU := false, maskR := false, quiet := false,
    attnU := false, attnR := false, response := none }

/-- The part after power-on, with the reference ready, no calibration due and every queue fetched. -/
def rest : State :=
  { State.reset with ports := ⟨still, still, still⟩, scu := { Scu.powerOn with refUp := true, cal := .idle } }

/-- A state at an HT value. -/
def atHt (n : Nat) (s : State) : State := { s with tlu := { s.tlu with ht := BitVec.ofNat 32 n } }

/-- SUB0 bound to SPT0 in a state, its anchor 0; SUB1 bound to SPT1 and DETACHED; HT 1000. -/
def sub0In (st : SubState) : State :=
  { rest with
    sbt := { subs := ⟨{ SubRecord.reset with bound := some .spt0, state := st },
                      { SubRecord.reset with bound := some .spt1 }⟩, missLimit := 4 }
    tlu := { ht := 1000, source := .fast, divider := 0, anchor := ⟨some 0, none⟩ } }

/-- SUB0 CAMPED. -/
def camped : State := sub0In .camped

/-- A WAITING one-shot PAGE of SUB0, two slots long, starting at HT 1000. -/
def page : Occasion :=
  { sub := .sub0, kind := .page, frame := 3, slot := 2, length := 2, start := 1000, period := 0, stagedPeriod := none,
    remaining := 1, callLink := none, sendLink := none, state := .waiting, endHt := none, grace := none, placement := 0 }

/-- The state with a record in slot 0. -/
def holding (o : Occasion) (s : State) : State := s.modSlot 0 (fun sl => { sl with fresh := false, occ := some o })

/-- The state with a grant of slot 0 to SUB0, ending at HT 1000. -/
def granting (c : Nat) (s : State) : State :=
  { s with tgu := { s.tgu with grant := some { handle := 0, sub := .sub0, cls := c, endHt := 1000 } }
           pins := { s.pins with trxSel := some .spt0 } }

/-- A context of SUB0, calling out, in a state. -/
def line (st : CtxState) : CallCtx :=
  { CallCtx.reset with state := st, sub := some .sub0, direction := some .mo, started := some 900 }

/-- The state with a context in place 0. -/
def calling (c : CallCtx) (s : State) : State := s.setCtx 0 c

/-- A send record of SUB0 with one segment over buffer 0. -/
def oneSegment (st : SendState) (filled : Bool) (out : SegOutcome) : SendRec :=
  { state := st, sub := .sub0, dest := [49], persist := false, serial := none,
    segs := [{ buffer := 0, filled := filled, outcome := out }], result := none, finishCause := none }

/-- The state with send record 0. -/
def sending (r : SendRec) (s : State) : State :=
  (s.setSend 0 (some r)).modTxs (fun t => { t with pool := t.pool.set 0 (some [7]) })

/-- The state with the cell of code 5 and channel 6 in entry 1 of SUB0's table. -/
def neighbour (st : EntryState) (bar : Option HT) (s : State) : State :=
  s.modWatch .sub0 (fun w => { w with cells := w.cells.set 1 ⟨st, some ⟨5, 6⟩, 0, some (-6400), 1, none, bar⟩ })

/-- What a projection reads after a command. -/
def look {α : Type} (f : State → α) (o : Host.Outcome State Fault Refusal) : Option α :=
  match o with
  | .next t => some (f t)
  | _ => none

theorem rest_follows : rest.attentionFollows := driveAttention_follows rest
theorem camped_follows : camped.attentionFollows := rest_follows

/-! ### Values the manual works out -/

/-- Chapter 1: HT 5,100,000 and anchor 5,000,000, then an anchor that needs two additions. -/
theorem test_normalise_ahead : normalise 5100000 5400000 = 5072320 := by decide
theorem test_normalise_behind : normalise 5100000 4000000 = 4983040 := by decide
theorem test_convert_this_hyperframe : convert 5100000 5000000 400 3 = 5128048 := by decide
theorem test_convert_two_additions : convert 5100000 4772330 0 0 = 5427690 := by decide

/-- Chapter 1: SUB0 CAMPED under anchor 5,000,000 at HT 5,100,000 - 95,000 + 4,900, an adjustment of +160. -/
theorem test_anchor_adjust_across_a_frame : look (fun t => t.tlu.anchor.sub0)
    (exec (.anchorAdjust .spt0 9 [0, 160, 0]) (atHt 5000100 (camped.setAnchor .sub0 (some 5000000)))) =
    some (some 4672480) := by decide +kernel
theorem test_anchor_adjust_back : look (fun t => t.tlu.anchor.sub0)
    (exec (.anchorAdjust .spt0 9 [0, 96, 255]) (atHt 5327780 (camped.setAnchor .sub0 (some 5000160)))) =
    some (some 5327680) := by decide +kernel
theorem test_tick_advances_the_anchor : look (fun t => (t.tlu.ht, t.tlu.anchor.sub0))
    (exec .htTick (atHt 5000159 (camped.setAnchor .sub0 (some 4672480)))) = some (5000160, some 5000160) := by
  decide +kernel

/-- Section 5.9: two samples, and the best candidate of the table after them (the lower index of an equal margin). -/
theorem test_filter_up : filterLevel 2 (some (-24384)) (-364) = -24112 := by decide
theorem test_filter_rounds_half_up : filterLevel 2 (some (-24314)) (-380) = -24315 := by decide
theorem test_best_candidate_of_equal_margins : (bestCandidate 4
    [⟨.serving, some ⟨101, 5200⟩, 0, some (-24112), 41, none, none⟩,
     ⟨.tracked, some ⟨102, 5200⟩, 0, some (-23040), 22, none, none⟩,
     ⟨.tracked, some ⟨103, 5200⟩, 2, some (-38400), 1, none, none⟩,
     ⟨.tracked, some ⟨104, 5230⟩, -1, some (-22240), 16, none, some 3310000⟩,
     ⟨.tracked, some ⟨105, 5200⟩, 0, some (-23040), 10, none, none⟩]).map (fun x => (x.1, x.2.2)) = some (1, 560) := by
  decide

/-- Section 6.2: report 2 of the sequence, under HOLD and under RESTART. -/
def mode (m : TriggerMode) (s : State) : State :=
  s.modWatch .sub0 (fun w => { w with config := { w.config with mode := m } })

theorem test_trigger_hold : ((triggerFinding .sub0 (some 4) (atHt 1003200
    (setTrigger .sub0 (.running 1 1000000 1010240) (mode .hold camped)))).watch .sub0).trigger =
    .running 4 1000000 1010240 := by decide +kernel
theorem test_trigger_restart : ((triggerFinding .sub0 (some 4) (atHt 1003200
    (setTrigger .sub0 (.running 1 1000000 1010240) (mode .restart camped)))).watch .sub0).trigger =
    .running 4 1003200 1013440 := by decide +kernel

/-- Both subscriptions CAMPED, at an HT, with a grant of handle 0 and records in the first calendar slots. -/
def contested (now : HT) (g : Grant) (l : List CalSlot) (s : State) : State :=
  { s with
    sbt := { s.sbt with subs := ⟨{ s.sbt.subs.sub0 with state := .camped }, { s.sbt.subs.sub1 with state := .camped }⟩ }
    tlu := { ht := now, source := .fast, divider := 0, anchor := ⟨some 984, some 0⟩ }
    ocl := { slots := l ++ List.replicate (48 - l.length) ⟨0, true, false, none, none⟩ }
    tgu := { s.tgu with grant := some g, window := 1000, w := 256, a := 12 } }

/-- A record of one kind with its place, length, start, period and remaining count, WAITING or GRANTED. -/
def record (i : Sub) (k : OccKind) (frame len : Nat) (start : HT) (period rem : Nat) (granted : Option HT) : CalSlot :=
  ⟨0, false, false, none, some ⟨i, k, frame, 0, len, start, period, none, rem, none, none,
    if granted.isSome then .granted else .waiting, granted, none, if i = .sub0 then 984 else 0⟩⟩

/-- Section 3.11, step 3: an ACCESS of SUB0 in slot 1 pre-empts the MEAS of SUB1 in slot 0, which re-arms. -/
theorem test_access_preempts_measurement : look (fun t => ((t.occ 0).map (fun o => (o.start, o.frame, o.remaining)),
    t.tgu.grant.map (fun g => g.endHt), t.pins.trxSel, lateAt t 0))
    (exec .occasionStart (contested 200024 ⟨0, .sub1, 0, 200064⟩
      [record .sub1 .meas 625 4 200000 8 3 (some 200064), record .sub0 .access 622 6 200024 0 1 none] camped)) =
    some (some (202560, 633, 2), some 200120, some .spt0, true) := by decide +kernel

/-- Section 4.9: at HT 4,096,230 a PAGE of SUB1 of four slots is charged while SUB0 is in call. -/
theorem test_tune_away_page_is_charged : look (fun t => (t.tgu.used, t.tgu.grant.map (fun g => (g.handle, g.cls)),
    (t.occ 0).map (fun o => o.start)))
    (exec .occasionStart (calling (line .connected) (contested 4096230 ⟨0, .sub0, 2, 4096296⟩
      [record .sub0 .traffic 0 6 4096200 2 0 (some 4096296), record .sub1 .page 0 4 4096230 8 0 none] camped))) =
    some (4, some (1, 3), some 4096840) := by decide +kernel

/-- Section 7.11, step 1: CALL_DIAL at HT 2,000,000. -/
theorem test_dial_setup_expiry : look (fun t => (t.ctx 0).map (fun c => (c.state, c.timer)))
    (exec (.callDial .apt 1 [0, 1, 49]) (atHt 2000000 camped)) = some (some (.dialing, some 2128000)) := by
  decide +kernel

/-- Section 10.9: the calibration, the plan at HT 1,000,000 for a start at 1,064,000, and the first cycle asleep. -/
theorem test_calibration_ratio : look (fun t => (t.scu.ratio, t.scu.valid, t.scu.recalExpiry))
    (exec (.calibrationComplete 600) { camped with scu := { camped.scu with cal := .running ⟨12, true, 4096, 2399952⟩ } }) =
    some (16383672, true, some 961000) := by decide +kernel
theorem test_wake_plan : ((runEval { (atHt 1000000 (holding { page with start := 1064000 } camped)) with
    evalDue := true
    scu := { camped.scu with ratio := 16383672, valid := true, votes := ⟨.deepOk, .deepOk, .deepOk⟩ } }).scu.plan).map
      (fun w => (w.tn, w.d, w.wp, w.n)) = some (1064000, 63932, 1063932, 65467) := by decide +kernel

/-- Section 11.4: an URGENT event displaces the oldest ROUTINE one of 32. -/
theorem test_overflowing_queue : (fun u : PortUnit => (u.queue.length, u.lost, u.queue.map (fun e => e.kind.code)))
    ({ still with queue := List.replicate 30 { Event.resetDone 0 0 with kind := .occLost, urgent := false } ++
        [{ Event.resetDone 0 0 with kind := .hoCandidate }] }.enqueue
      { Event.resetDone 0 0 with kind := .hoWithdrawn, urgent := false } |>.enqueue
      { Event.resetDone 0 0 with kind := .occGranted }) =
    (32, true, List.replicate 29 2 ++ [4, 5, 1]) := by decide +kernel

/-- R57: a shift of 0 leaves a start as it was, before HT + 32 too. -/
theorem test_zero_shift_keeps_the_start : look (fun t => (t.occ 0).map (fun o => o.start))
    (exec (.anchorAdjust .spt0 9 [0, 0, 0]) (holding { page with start := 1005 } camped)) = some (some 1005) := by
  decide +kernel
/-- R70, R51, R58: OCC_ENDED (PREEMPTED) comes before the OCC_LOST (RETIMED) of its re-arm under a newer anchor. -/
theorem test_preempted_before_retimed : look (fun t => (t.unit .spt1).queue.map (fun e => (e.kind, e.cause)))
    (exec .occasionStart (contested 200024 ⟨0, .sub1, 0, 200064⟩
      [⟨0, false, false, none, some ⟨.sub1, .meas, 625, 0, 4, 200000, 1, none, 2, none, none, .granted, some 200064, none,
          320⟩⟩, record .sub0 .access 622 6 200024 0 1 none] camped)) = some [(.occEnded, 8), (.occLost, 6)] := by decide +kernel

/-! ### The hypotheses of the statements are met: the machine as a whole -/

/-- A state with a clock event waiting. -/
def queued : State := { camped with pending := [.htTick] }

/-- The state with the reset pin asserted, every line low. -/
def held : State := { rest with inReset := true }

theorem rest_ready : rest.ready := ⟨rfl, rfl, rfl⟩
theorem camped_ready : camped.ready := rest_ready
theorem camped_sized : camped.sized :=
  ⟨rfl, by intro i; cases i <;> rfl, rfl, rfl, rfl, rfl, by intro p; cases p <;> decide⟩
theorem camped_below : camped.belowMissLimit := by intro i; cases i <;> decide
theorem held_follows : held.attentionFollows := driveAttention_follows held

theorem camped_no_record (i : Nat) : camped.occ i = none := by
  rcases Nat.lt_or_ge i 48 with h | h
  · revert i; decide +kernel
  · simp [State.occ, show camped.ocl.slots[i]? = none from List.getElem?_eq_none h]
theorem camped_no_bar (i : Sub) (k : Nat) (now : HT) :
    (match (camped.watch i).cells[k]? with
      | some e => expired e.bar now
      | none => false) = false := by
  rcases Nat.lt_or_ge k 16 with h | h
  · rw [show (camped.watch i).cells[k]? = some CellEntry.emptyEntry by cases i <;> (revert k; decide +kernel)]; rfl
  · rw [show (camped.watch i).cells[k]? = none by cases i <;> exact List.getElem?_eq_none h]
theorem camped_no_context (i : Nat) : camped.ctx i = some CallCtx.reset ∨ camped.ctx i = none := by
  rcases Nat.lt_or_ge i 4 with h | h
  · revert i; decide +kernel
  · exact .inr (by simp [State.ctx, show camped.cct.ctxs[i]? = none from List.getElem?_eq_none h])
theorem camped_no_entry (i : Nat) : camped.txs.entries[i]? = some .free ∨ camped.txs.entries[i]? = none := by
  rcases Nat.lt_or_ge i 8 with h | h
  · revert i; decide +kernel
  · exact .inr (List.getElem?_eq_none h)

/-- A state with the empty tables of `camped` has nothing due but what its own clock, grant and sleep fields say. -/
theorem quiet_of_empty (s : State) (ho : s.ocl = camped.ocl) (hc : s.cct = camped.cct) (hw : s.cwu = camped.cwu)
    (ht : s.txs = camped.txs) (h : windowDue s = false ∧ endDue s = false ∧ recalDue s = false ∧ dozeDue s = false ∧
      calCounted s = false ∧ wakeDue s = false) : s.nothingDue := by
  have hocc : ∀ i, s.occ i = none := fun i => by
    have := camped_no_record i
    unfold State.occ at *
    rwa [ho]
  have hctx : ∀ i, s.ctx i = camped.ctx i := fun i => by unfold State.ctx; rw [hc]
  refine ⟨h.1, h.2.1, fun i => by simp [graceDue, hocc], ?_, fun i => ?_, fun i k => ?_, fun i => ?_, fun i => ?_, h.2.2⟩
  · unfold startDue records; rw [ho]; rfl
  · unfold tttDue repeatDue State.watch; rw [hw]; cases i <;> exact ⟨rfl, rfl⟩
  · unfold barDue entryAt State.watch; rw [hw]; exact camped_no_bar i k s.now
  · unfold timerDue; rw [hctx]; rcases camped_no_context i with e | e <;> rw [e] <;> exact ⟨rfl, rfl⟩
  · unfold reassemblyDue; rw [ht]; rcases camped_no_entry i with e | e <;> rw [e]

theorem camped_quiet : camped.nothingDue := quiet_of_empty camped rfl rfl rfl rfl (by decide)

/-- The grant of a PAGE of SUB0 in slot 0, ending at HT 1000. -/
def granted : State := granting 0 (holding { page with state := .granted } camped)

theorem granted_records (n : Nat) (o : Occasion) (h : granted.occ n = some o) : o = { page with state := .granted } := by
  match n with
  | 0 => cases h; rfl
  | k + 1 =>
    exact absurd (show camped.occ (k + 1) = some o from h) (by rw [camped_no_record]; exact fun e => nomatch e)

theorem witness_StepTakesTheFrontCommand : queued.pending = .htTick :: [] ∧ rest.pending = [] := ⟨rfl, rfl⟩
theorem witness_EveryCommandAnswersANextState : queued.settled ∧ ∃ t, step queued = .next t := ⟨⟨rfl, rfl⟩, _, rfl⟩
theorem witness_EncodedFrameDecodesToItsRequest : (Instr.timeRead .apt 3 []).wf = true ∧
    encodeFrame (.timeRead .apt 3 []) = some (.apt, [1, 3, 0]) ∧ 2 < [1, 3, 0].length ∧ camped.inReset = false ∧
    decodeFrame .apt [1, 3] = .transactionAborted .apt := by decide
/-- R196: fill in the three octets of the write phase, then status OK and the tag, and fill after 38 octets of response;
with the reset pin asserted fill throughout (R208). -/
theorem test_output_octets : [0, 2, 3, 4, 100].map (transactionOctet .apt [1, 3, 0] camped) = [255, 255, 0, 3, 255] ∧
    [0, 3, 100].map (transactionOctet .apt [1, 3, 0] { camped with inReset := true }) = [255, 255, 255] := by
  decide +kernel
theorem witness_AttentionLinesSizesAndAnchorsAreKept : queued.attentionFollows ∧ ∃ t, step queued = .next t :=
  ⟨rest_follows, _, rfl⟩
theorem witness_AttentionLinesSizesAndAnchorsAreKept_sizes : queued.sized ∧ ∃ t, step queued = .next t :=
  ⟨camped_sized, _, rfl⟩
/-- SUB0's position is 327,679, the last before its anchor advances. -/
theorem witness_AttentionLinesSizesAndAnchorsAreKept_anchors : (atHt 327679 queued).anchorsInRange ∧
    ∃ t, step (atHt 327679 queued) = .next t := by
  refine ⟨fun i a h => ?_, _, rfl⟩
  cases i <;> cases h
  decide
theorem witness_SelectLineHoldAndChargeFollowTheGrants : queued.grantLines ∧ queued.allowanceKept ∧
    ∃ t, step queued = .next t :=
  ⟨⟨fun _ => rfl, by intro i; cases i <;> decide⟩, show (0 : Nat) ≤ 32 by decide, _, rfl⟩
/-- A grant of slot 0 to SUB0, its record GRANTED, TRX_SEL at SPT0. -/
theorem witness_SelectLineHoldAndChargeFollowTheGrants_grant : ({ granted with pending := [.htTick] } : State).sized ∧
    ({ granted with pending := [.htTick] } : State).grantHeld ∧
    ∃ t, step { granted with pending := [.htTick] } = .next t := by
  refine ⟨⟨rfl, camped_sized.2⟩, ⟨fun g h => ?_, fun n o h => ?_, fun _ g h => ?_⟩, _, rfl⟩
  · cases h; exact ⟨_, rfl, rfl, rfl, by decide⟩
  · rw [granted_records n o h]; decide
  · cases h; rfl
/-- SUB0 camped on the cell of entry 0, the cell of entry 1 TRACKED. -/
def served (st : SubState) : State :=
  (neighbour .tracked none ((sub0In st).modSub .sub0 (fun r => { r with serving := some 0 }))).modWatch .sub0
    (fun w => { w with cells := w.cells.set 0 ⟨.serving, some ⟨4, 6⟩, 0, some (-7000), 1, none, none⟩ })

/-- SUB0 switching from the cell of entry 0 to that of entry 1. -/
def moving : State := (served .switching).modWatch .sub0 (fun w => { w with switchRec := some ⟨1, 5, 6, 0⟩ })

/-- No two entries of a table hold one cell: checked in pairs. -/
theorem cells_differ (l : List CellEntry)
    (h : l.Pairwise (fun e f => (e.state = .empty ∧ f.state = .empty) ∨ e.cell ≠ f.cell)) :
    ∀ (j k : Nat) e f, j ≠ k → l[j]? = some e → l[k]? = some f → e.state ≠ .empty → e.cell ≠ f.cell := by
  intro j k e f n he hf x
  obtain ⟨hj, rfl⟩ := List.getElem?_eq_some_iff.mp he
  obtain ⟨hk, rfl⟩ := List.getElem?_eq_some_iff.mp hf
  rcases Nat.lt_or_gt_of_ne n with g | g
  · exact (List.pairwise_iff_getElem.mp h j k hj hk g).resolve_left fun c => x c.1
  · exact ((List.pairwise_iff_getElem.mp h k j hk hj g).resolve_left fun c => x c.2).symm

/-- The one SERVING entry of a table, checked on its indices. -/
theorem serving_is (l : List CellEntry) (o : Option Nat) (ho : ∀ n, o = some n → n < l.length)
    (h : ∀ k < l.length, o = some k ↔ (l[k]?).map CellEntry.state = some .serving) :
    ∀ k : Nat, o = some k ↔ ∃ e, l[k]? = some e ∧ e.state = .serving := by
  intro k
  constructor
  · intro e
    have hk := ho k e
    have := (h k hk).mp e
    rw [List.getElem?_eq_getElem hk] at this ⊢
    exact ⟨_, rfl, Option.some.inj this⟩
  · rintro ⟨e, he, hs⟩
    refine (h k (List.getElem?_eq_some_iff.mp he).1).mpr ?_
    rw [he]
    exact congrArg some hs

theorem camped_no_send (id : Nat) : camped.send id = none := by
  rcases Nat.lt_or_ge id 4 with h | h
  · revert id; decide +kernel
  · simp [State.send, show camped.txs.sends[id]? = none from List.getElem?_eq_none h]
/-- With no send record held the send slots agree, whatever the text store's buffers and messages. -/
theorem slots_of_no_send (s : State) (ht : s.txs = camped.txs) (hw : ∀ i, (s.sub i).stagedWaiting = false) :
    s.slotsHold := by
  have hn : ∀ id, s.send id = none := fun id => by
    have := camped_no_send id
    unfold State.send at *
    rwa [ht]
  refine ⟨fun i id h => ?_, fun i id h => ?_, fun id r h => ?_, fun i => ⟨⟨fun h => ?_, fun h => ?_⟩, fun _ => hw i⟩⟩
  · rw [ht] at h; cases i <;> exact nomatch h
  · rw [ht] at h; cases i <;> exact nomatch h
  · rw [hn] at h; exact nomatch h
  · rw [hw] at h; exact nomatch h
  · rw [ht] at h; cases i <;> exact absurd rfl h.2

/-- A TRAFFIC record of SUB0 linked to its DIALING context 0, whose timer has come. -/
def linked : State :=
  calling { line .dialing with timer := some 1000 }
    (holding { page with kind := .traffic, callLink := some 0, start := 1040 } camped)

theorem linked_links : linked.linksHold := by
  intro m o h
  match m with
  | 0 => cases h; exact ⟨fun n e => by cases e; exact ⟨.inl rfl, _, rfl, by decide, rfl⟩, fun n e => nomatch e⟩
  | k + 1 =>
    exact absurd (show camped.occ (k + 1) = some o from h) (by rw [camped_no_record]; exact fun e => nomatch e)
theorem moving_sized : moving.sized :=
  ⟨rfl, by intro i; cases i <;> rfl, rfl, rfl, rfl, rfl, by intro p; cases p <;> decide⟩
theorem moving_cells : moving.cellsHold := by
  intro i
  cases i
  · exact ⟨by decide +kernel, cells_differ _ (by decide +kernel),
      serving_is _ _ (fun n h => by cases h; decide) (by decide +kernel), by decide +kernel, by decide +kernel⟩
  · exact ⟨by decide +kernel, cells_differ _ (by decide +kernel), serving_is _ _ (fun n h => nomatch h) (by decide +kernel),
      by decide +kernel, by decide +kernel⟩
theorem moving_handover : moving.handoverHolds := by
  intro i
  cases i
  · exact ⟨fun _ => rfl, by decide +kernel, fun w h => by cases h; exact ⟨_, rfl, rfl, rfl⟩⟩
  · exact ⟨fun _ => rfl, by decide +kernel, fun w h => nomatch h⟩
/-- A record linked to a context; a switch open to a TRACKED entry. -/
theorem witness_LinksSendSlotsCellsAndTriggersHold :
    (({ linked with pending := [.htTick] } : State).sized ∧ ({ linked with pending := [.htTick] } : State).linksHold ∧
      ({ linked with pending := [.htTick] } : State).slotsHold ∧ ∃ t, step { linked with pending := [.htTick] } = .next t) ∧
    ({ moving with pending := [.htTick] } : State).sized ∧ ({ moving with pending := [.htTick] } : State).cellsHold ∧
    ({ moving with pending := [.htTick] } : State).handoverHolds ∧
    ∃ t, step { moving with pending := [.htTick] } = .next t :=
  ⟨⟨⟨rfl, camped_sized.2⟩, linked_links, slots_of_no_send _ rfl (by intro i; cases i <;> rfl), _, rfl⟩,
    moving_sized, moving_cells, moving_handover, _, rfl⟩
theorem witness_SleepLinesAndRatioStayInRange : queued.sleepLines ∧ queued.ratioInRange ∧ ∃ t, step queued = .next t :=
  ⟨fun _ => by decide, ⟨by decide, by decide, by decide⟩, _, rfl⟩
/-- DOZE with a power-up expiry to come, and no grant. -/
theorem witness_SleepLinesAndRatioStayInRange_doze : ({ queued with
    scu := { queued.scu with sleep := .doze, dozeExpiry := some 1216 }
    pins := { queued.pins with trxPwr := false } } : State).dozePower ∧ ∃ t, step { queued with
      scu := { queued.scu with sleep := .doze, dozeExpiry := some 1216 }
      pins := { queued.pins with trxPwr := false } } = .next t :=
  ⟨fun _ _ => ⟨fun h => absurd rfl h, fun _ _ => rfl⟩, _, rfl⟩
theorem witness_HandsetTimeMovesOnlyAtClockEvents : ∃ t, exec .htTick camped = .next t := ⟨_, rfl⟩
/-- BIND with sub 2 answers status 4, BAD_FIELD. -/
theorem witness_RefusedRequestChangesNoBlock : (Instr.bind .apt 9 [2, 0]).wf = true ∧
    (Instr.bind .apt 9 [2, 0]).request? = some (.apt, 3, 9, [2, 0]) ∧ camped.ready ∧ camped.attentionFollows ∧
    ∃ t, exec (.bind .apt 9 [2, 0]) camped = .next t ∧ (t.unit .apt).response = some (BitVec.ofNat 8 4 :: 9 :: [0]) :=
  ⟨rfl, rfl, camped_ready, camped_follows, _, rfl, by decide +kernel⟩
theorem witness_FramingChecksComeBeforeTheKind : camped.inReset = false ∧
    (Instr.camp .apt 0 []).request? = some (.apt, 5, 0, []) ∧ (Instr.camp .apt 0 []).wf = true ∧
    permittedOn 5 .apt = false ∧ (Instr.unsupportedRequest .spt0 0 0 []).wf = true ∧
    (Instr.unsupportedRequest .spt0 52 0 []).wf = true ∧
    (Instr.timeRead .apt 0 (List.replicate 249 0)).wf = true ∧ permittedOn 1 .apt = true ∧
    248 < (List.replicate 249 (0 : Octet)).length ∧ permittedOn 5 .spt0 = true ∧ bodyFits 5 [0, 0, 0, 0, 0, 0, 0, 0] = false ∧
    bodyFits 15 [0, 2, 1, 0, 6, 0, 3] = false ∧ bodyFits 22 [0, 2, 49] = false ∧ (camped.unit .spt0).latch = none ∧
    (camped.unit .spt0).quiet = false ∧
    ((camped.modUnit .spt0 (fun u => { u with quiet := true })).unit .spt0).latch = none ∧
    ((camped.modUnit .spt0 (fun u => { u with quiet := true })).unit .spt0).quiet = true := by decide +kernel
/-- R200: a quiet port latches a refusal and queues nothing. -/
theorem test_a_quiet_port_queues_no_refusal : look (fun t => ((t.unit .spt0).latch, (t.unit .spt0).queue))
    (exec (.unsupportedRequest .spt0 52 9 []) (camped.modUnit .spt0 (fun u => { u with quiet := true }))) =
    some (some ⟨52, 9, 2, 1000⟩, []) := by decide +kernel
theorem witness_ResetPinHoldsRequestsOff : held.inReset = true ∧ held.attentionFollows ∧
    (Instr.timeRead .apt 0 []).wf = true ∧ (Instr.timeRead .apt 0 []).request? = some (.apt, 1, 0, []) :=
  ⟨rfl, held_follows, rfl, rfl⟩

/-! ### The hypotheses of the statements are met: shared operations -/

/-- A routine and an urgent event. -/
def event (urgent : Bool) : Event := { Event.resetDone 32 0 with urgent := urgent }

theorem witness_NormalisingAndConversion : position 327679 0 < 327680 ∧ 1023 ≤ 1023 ∧ 19 ≤ 19 ∧
    notBefore (addTicks 0 (0 * 320 + 0 * 16)) (addTicks 327679 32) = false ∧
    notBefore (addTicks 0 (1023 * 320 + 19 * 16)) (addTicks 327632 32) = true := by decide
/-- 31 URGENT entries and one ROUTINE entry, then 32 URGENT ones. -/
theorem witness_EventQueueAndFetch :
    still.queue.length < 32 ∧ 32 ≤ (List.replicate 31 (event true) ++ [event false] ++ []).length ∧
    (event true).urgent = true ∧ (event false).urgent = false ∧ (∀ x ∈ List.replicate 31 (event true), x.urgent = true) ∧
    32 ≤ (List.replicate 32 (event true)).length ∧ ∀ x ∈ List.replicate 32 (event true), x.urgent = true := by
  decide +kernel
theorem witness_FilterMarginsAndBestCandidate : 6 ≤ 6 ∧ (-600 : Int) ≤ -600 ∧ (-600 : Int) ≤ -80 ∧
    (-38400 : Int) ≤ -600 * 64 ∧ (-80 * 64 : Int) ≤ -5120 := by decide
theorem witness_FilterMarginsAndBestCandidate_best :
    (∃ e, bestCandidate 4 [⟨.serving, some ⟨1, 1⟩, 0, some (-7000), 1, none, none⟩,
      ⟨.tracked, some ⟨2, 1⟩, 0, some (-6400), 1, none, none⟩] = some (1, e, 88)) ∧
    bestCandidate 4 [] = none := ⟨⟨_, rfl⟩, rfl⟩
/-- A PAGE of SUB0 in slot 0 and a MEAS of SUB0 in slot 1 start at HT 1000. -/
def contending : State :=
  (holding page camped).modSlot 1 (fun sl => { sl with fresh := false, occ := some { page with kind := .meas } })

theorem witness_StartHasOneWinnerAndLosesTheOthers :
    [(⟨0, .sub0, 2, false⟩ : Starter), ⟨1, .sub1, 2, false⟩] ≠ [] ∧
    [(⟨0, .sub0, 2, false⟩ : Starter), ⟨1, .sub1, 2, false⟩].Pairwise (fun x y => x.slot ≠ y.slot) ∧ contending.ready ∧
    endDue contending = false ∧ windowDue contending = false ∧ starterSlots contending = [0, 1] ∧
    contending.occ 0 = some page ∧ contending.occ 1 = some { page with kind := .meas } ∧
    (contending.sub .sub0).state = .camped ∧ inCall contending .sub1 = false ∧ page.period = 0 ∧
    contending.tgu.grant = none ∧ contending.scu.sleep = .awake ∧
    winner contending.tgu.tie [⟨0, .sub0, 1, false⟩, ⟨1, .sub0, 0, false⟩] = some ⟨0, .sub0, 1, false⟩ ∧
    look (fun t => ((t.unit .apt).queue.map (fun e => (e.kind, e.detail)), (t.unit .spt0).queue.map (fun e => e.cause)))
      (exec .occasionStart { contending with scu := { contending.scu with sleep := .deep } }) =
      some ([(EventKind.wakeLate, [2])], [5, 5]) :=
  ⟨by decide, by decide, camped_ready, by decide +kernel⟩
/-- Slot 0 has been used before, with generation 1023. -/
theorem witness_RecordsTakeAndLeaveSlots :
    (camped.modSlot 0 (fun sl => { sl with fresh := false, gen := 1023 })).sized ∧
    (∀ sl ∈ (camped.modSlot 0 (fun sl => { sl with fresh := false, gen := 1023 })).ocl.slots, sl.gen < 1024) ∧
    (∃ u, makeRecord page (camped.modSlot 0 (fun sl => { sl with fresh := false, gen := 1023 })) = some (0, u)) ∧
    (camped.modSlot 0 (fun sl => { sl with fresh := false, gen := 1023 })).ocl.slots[0]? =
      some ⟨1023, false, false, none, none⟩ :=
  ⟨⟨rfl, camped_sized.2⟩, by decide +kernel, ⟨_, rfl⟩, rfl⟩
theorem witness_RecordsTakeAndLeaveSlots_resolved : 0 < 48 ∧ (holding page camped).sized ∧
    (holding page camped).occ 0 = some page ∧ page.period = 0 ∧ lateAt (holding page camped) 0 = false ∧
    (holding { page with period := 1024, remaining := 0 } camped).occ 0 = some { page with period := 1024, remaining := 0 } ∧
    (holding { page with period := 1024, remaining := 0 } camped).anchor .sub0 = some page.placement :=
  ⟨by decide, ⟨rfl, camped_sized.2⟩, rfl, rfl, rfl, rfl, rfl⟩
/-- Anchor 32 in place of 0: a start of 1000 moves to 1032, just not before HT + 32; anchor 31 leaves it before: a record
of period 1 moves on by one period, with one occurrence left it is removed. Anchor 0 in place of 0: shift 0. -/
theorem witness_RetimingMovesTheWaitingRecords :
    ((holding page camped).setAnchor .sub0 (some 32)).anchor .sub0 = some 32 ∧
    ((holding page camped).setAnchor .sub0 (some 32)).occ 0 = some page ∧ page.state = .waiting ∧ page.kind ≠ .switch ∧
    shift 0 32 ≠ 0 ∧ notBefore (addShift page.start (shift 0 32)) (addTicks camped.tlu.ht 32) = true ∧
    before (addShift page.start (shift 0 31)) (addTicks camped.tlu.ht 32) = true ∧ page.period = 0 ∧ shift 0 0 = 0 ∧
    (holding { page with period := 1, remaining := 2 } camped).occ 0 = some { page with period := 1, remaining := 2 } ∧
    notBefore (addTicks (addShift page.start (shift 0 31)) (1 * (1 * 320))) (addTicks camped.tlu.ht 32) = true := by
  decide +kernel
theorem witness_TriggerFollowsItsTable : (camped.watch .sub0).trigger = .idle ∧
    ((setTrigger .sub0 (.running 1 900 1100) camped).watch .sub0).trigger = .running 1 900 1100 ∧
    ((setTrigger .sub0 (.reported 1 1100) camped).watch .sub0).trigger = .reported 1 1100 ∧
    (camped.sub .sub0).bound = some .spt0 ∧ (camped.watch .sub0).config.ttt ≠ 0 ∧
    (camped.sub .sub0).bound = some .spt0 := by decide +kernel

/-! ### The hypotheses of the statements are met: timeline, subscriptions, calendar and grants -/

theorem camped_anchors (n : Nat) (h : position (BitVec.ofNat 32 n) 0 < 327680) : (atHt n camped).anchorsInRange := by
  intro i a ha
  cases i <;> cases ha
  exact h

/-- An inbox message of id 0 with one segment over buffer 0. -/
def arrived : InboxMsg :=
  { id := 0, msg := { sub := .sub0, reference := 9, total := 1, segs := [⟨1, 0⟩], originator := none },
    isPartial := false, missing := [], done := 900 }

theorem witness_TimeStatusAndListsAreRead : camped.ready ∧ camped.anchorsInRange ∧
    (camped.sub .sub0).bound = some .spt0 ∧ subOf 0 = some .sub0 ∧ subOf 1 = some .sub1 ∧
    (camped.sub .sub1).bound = some .spt1 ∧ (31 : Octet).toNat ≤ 31 ∧ (15 : Octet).toNat ≤ 15 :=
  ⟨camped_ready, camped_anchors 1000 (by decide), by decide⟩
/-- R125: in DETACHED the response of CELL_TABLE_READ ends with the trigger state IDLE and an absent switch record of seven
octets; in CAMPED it does not. CELL_CONFIG ends with the switch record in ABSENT. -/
theorem test_detached_reads_show_the_trigger_and_the_switch_record :
    look (fun t => (t.unit .spt0).response.map (fun r => (r.length, r[42]?, r[43]?)))
      (exec (.cellTableRead .spt0 9 [0, 0]) (sub0In .detached)) = some (some (51, some 0, some 0)) ∧
    look (fun t => (t.unit .spt0).response.map (fun r => r.length)) (exec (.cellTableRead .spt0 9 [0, 0]) camped) =
      some (some 42) ∧
    ([.absent, .camped] : List SubState).map (fun st => look (fun t => (t.unit .spt0).response.map (fun r => r.length))
      (exec (.cellConfig .spt0 9 [0, 0, 0, 0, 0, 0, 0, 0, 0, 0, 0, 0, 0, 0, 0, 0]) (sub0In st))) =
      [some (some 37), some (some 29)] := by decide +kernel
/-- SPT0 sees the contexts of SUB0 alone, the APT all; a message of one segment; a send record of one. -/
theorem witness_CallAndTextListsAreRead : camped.ready ∧
    (∀ c : CallCtx, decide (c.sub = some .sub0) = true ↔
      Port.spt0 = .apt ∨ ∃ i q, c.sub = some i ∧ (camped.sub i).bound = some q ∧ Port.spt0 = portOf q) ∧
    arrived ∈ (camped.modTxs (fun t => { t with inbox := [arrived] })).txs.inbox ∧ arrived.id = (0 : Octet).toNat ∧
    (∀ y ∈ (camped.modTxs (fun t => { t with inbox := [arrived] })).txs.inbox, y.id = (0 : Octet).toNat → y = arrived) ∧
    arrived.msg.segs[(0 : Octet).toNat]? = some ⟨1, 0⟩ ∧ (3 : Octet).toNat ≤ 3 ∧
    (sending (oneSegment .kept true (.failed 3)) camped).send 3 = none ∧
    (sending (oneSegment .kept true (.failed 3)) camped).send 0 = some (oneSegment .kept true (.failed 3)) := by
  refine ⟨camped_ready, fun c => ?_, by decide⟩
  constructor
  · intro h; exact .inr ⟨.sub0, .spt0, of_decide_eq_true h, rfl, rfl⟩
  · rintro (h | ⟨i, q, h, b, e⟩)
    · exact nomatch h
    · cases i
      · exact decide_eq_true h
      · cases b; exact nomatch e
/-- Deltas 160, -160, 161 and -161, and a DETACHED subscription. -/
theorem witness_AnchorAdjustMovesTheAnchor : camped.ready ∧ (camped.sub .sub0).bound = some .spt0 ∧
    subOf 0 = some .sub0 ∧ (camped.sub .sub0).state = .camped ∧ camped.anchor .sub0 = some 0 ∧ s16 160 0 = 160 ∧
    s16 96 255 = -160 ∧ s16 161 0 = 161 ∧ s16 95 255 = -161 ∧ ((sub0In .detached).sub .sub0).state ≠ .camped ∧
    ((sub0In .detached).sub .sub0).bound = some .spt0 := ⟨camped_ready, by decide⟩
/-- Awake at position 1000; asleep with a fraction that carries; a calibration running. -/
theorem witness_ClockEventsAdvanceHandsetTime : camped.ready ∧ camped.attentionFollows ∧ camped.nothingDue ∧
    camped.tlu.source = .fast ∧ camped.scu.refUp = true ∧ camped.anchor .sub0 = some 0 ∧ position 1000 0 ≠ 327679 ∧
    position 327679 0 = 327679 ∧ camped.ratioInRange ∧ camped.scu.sleep = .awake :=
  ⟨camped_ready, camped_follows, camped_quiet, rfl, rfl, rfl, by decide, by decide,
    ⟨by decide, by decide, by decide⟩, rfl⟩

/-- Asleep at HT 327,679 with a fraction that the ratio carries, and 9 slow cycles to the wake. -/
def asleep : State :=
  { camped with
    tlu := { camped.tlu with ht := 327679, source := .slow }
    tgu := { camped.tgu with window := 19 }
    scu := { camped.scu with sleep := .deep, refUp := false, acc := 16777215, wakeTimer := some 9 }
    pins := { trxSel := none, trxPwr := false, refEn := false } }

/-- Awake at HT 327,679, where the anchor advances at the next tick. -/
def edge : State := { camped with tlu := { camped.tlu with ht := 327679 }, tgu := { camped.tgu with window := 19 } }

/-- A calibration running, its window opened. -/
def calibrating : State := { camped with scu := { camped.scu with cal := .running ⟨12, true, 0, 0⟩ } }

/-- The other clauses: an anchor about to advance, awake and asleep; a sum below 2^24; a calibration running. -/
theorem witness_ClockEventsAdvanceHandsetTime_edges : asleep.ready ∧ asleep.attentionFollows ∧ asleep.nothingDue ∧
    asleep.ratioInRange ∧ asleep.scu.sleep = .deep ∧ 16777216 ≤ asleep.scu.acc + asleep.scu.ratio ∧
    (0 : Nat) + asleep.scu.ratio < 16777216 ∧ asleep.anchor .sub0 = some 0 ∧ position asleep.tlu.ht 0 = 327679 ∧
    edge.ready ∧ edge.attentionFollows ∧ edge.nothingDue ∧ position edge.tlu.ht 0 = 327679 ∧
    calibrating.nothingDue ∧ calibrating.scu.cal = .running ⟨12, true, 0, 0⟩ :=
  ⟨camped_ready, rest_follows, quiet_of_empty asleep rfl rfl rfl rfl (by decide), ⟨by decide, by decide, by decide⟩,
    rfl, by decide, by decide, rfl, by decide, camped_ready, rest_follows,
    quiet_of_empty edge rfl rfl rfl rfl (by decide), by decide,
    quiet_of_empty calibrating rfl rfl rfl rfl (by decide), rfl⟩
theorem witness_BindUnbindAndResume : camped.ready ∧ subOf 0 = some .sub0 ∧ subOf 1 = some .sub1 ∧
    stackPortOf 0 = some .spt0 ∧ stackPortOf 1 = some .spt1 ∧ (camped.sub .sub1).state = .detached ∧
    (camped.sub .sub0).state ≠ .detached ∧ 2 ≤ (2 : Octet).toNat := ⟨camped_ready, by decide⟩
/-- SUB0 in a state with a STAGED send waiting. -/
def waitingSend (st : SubState) : State :=
  ((sending { oneSegment .staged true .pending with serial := some 7 } (served st)).modTxs (fun t =>
    { t with staged := ⟨some 0, none⟩ })).modSub .sub0 (fun r => { r with stagedWaiting := true })

/-- R35: at RESUME and at CAMP the waiting send is SENDING and TEXT_OUTBOUND is queued; SUB_STATE carries the new and the
prior state, the miss counter and the cell code. -/
theorem witness_BindUnbindAndResume_promotion : (waitingSend .absent).ready ∧
    ((waitingSend .absent).sub .sub0).stagedWaiting = true ∧ (waitingSend .absent).txs.staged.get .sub0 = some 0 ∧
    (waitingSend .absent).send 0 = some { oneSegment .staged true .pending with serial := some 7 } :=
  ⟨camped_ready, rfl, rfl, rfl⟩
theorem test_a_waiting_send_is_promoted :
    look (fun t => ((t.unit .spt0).queue.map (fun e => e.kind), (t.unit .apt).queue.map (fun e => (e.cause, e.detail))))
      (exec (.resume .apt 9 [0]) (waitingSend .absent)) = some ([.textOutbound], [(29, [1, 3, 0, 4, 0])]) ∧
    look (fun t => ((t.unit .spt0).queue.map (fun e => e.kind), (t.unit .apt).queue.map (fun e => (e.cause, e.detail))))
      (exec (.camp .spt0 9 [0, 5, 0, 6, 0, 0, 0, 0, 0]) (waitingSend .absent)) =
      some ([.textOutbound], [(25, [1, 3, 0, 5, 0])]) ∧
    look (fun t => (t.send 0).map (fun r => r.state)) (exec (.resume .apt 9 [0]) (waitingSend .absent)) =
      some (some .sending) := by decide +kernel

/-- A full table: SERVING at 0, LISTED at 2, TRACKED elsewhere, the level of entry 5 the lowest. -/
def fullTable (st : EntryState) : State :=
  (served .camped).modWatch .sub0 (fun w => { w with cells := (List.range 16).map (fun k =>
    ⟨if k = 0 then .serving else if k = 2 then st else .tracked, some ⟨k + 100, 6⟩, 0,
      some (if k = 5 then -7000 else -6400), 1, none, none⟩) })

/-- R93, R94: the entry that holds the cell, SERVING and TRACKED; the lowest EMPTY one; the LISTED one of a full table, and
with none LISTED the one of lowest level. The former SERVING entry is TRACKED. -/
theorem witness_CampMakesTheCellServing_choice :
    ((served .camped).watch .sub0).cells[1]? = some ⟨.tracked, some ⟨5, 6⟩, 0, some (-6400), 1, none, none⟩ ∧
    ((served .camped).watch .sub0).cells[2]? = some CellEntry.emptyEntry ∧
    (∀ x ∈ ((fullTable .listed).watch .sub0).cells, x.state ≠ .empty ∧ x.cell ≠ some ⟨9, 6⟩ ∧
      (x.state = .tracked → x.level ≠ none)) ∧
    ([(served .camped, 4), (served .camped, 5), (served .camped, 9), (fullTable .listed, 9), (fullTable .tracked, 9)] :
      List (State × Octet)).map (fun x => look (fun t => ((t.sub .sub0).serving,
        (t.watch .sub0).cells[0]?.map (fun e => e.state))) (exec (.camp .spt0 9 [0, x.2, 0, 6, 0, 0, 0, 0, 0]) x.1)) =
      [some (some 0, some .serving), some (some 1, some .tracked), some (some 2, some .tracked),
        some (some 2, some .tracked), some (some 5, some .tracked)] := by decide +kernel
/-- R57, R58: CAMP under anchor 64 in place of 0 re-times a record that starts at 1000 to 1064. -/
theorem test_camp_retimes : look (fun t => ((t.occ 0).map (fun o => o.start), (t.unit .spt0).queue.length))
    (exec (.camp .spt0 9 [0, 5, 0, 6, 0, 64, 0, 0, 0]) (holding page camped)) = some (some 1064, 0) := by decide +kernel
/-- Code 1023, and the same in SWITCHING. -/
theorem witness_CampMakesTheCellServing : camped.ready ∧ (camped.sub .sub0).bound = some .spt0 ∧
    subOf 0 = some .sub0 ∧ u16 255 3 ≤ 1023 ∧ (camped.sub .sub0).state ≠ .switching ∧
    (∃ e ∈ (camped.watch .sub0).cells, e.state ≠ .serving) ∧ ((sub0In .switching).sub .sub0).state = .switching ∧
    ((sub0In .switching).sub .sub0).bound = some .spt0 :=
  ⟨camped_ready, rfl, rfl, by decide, by decide, ⟨CellEntry.emptyEntry, by decide +kernel⟩, rfl, rfl⟩
theorem witness_DetachTearsTheSubscriptionDown : camped.ready ∧ camped.sized ∧
    (camped.sub .sub0).bound = some .spt0 ∧ (camped.sub .sub0).state ≠ .detached ∧
    (camped.sub .sub1).bound = some .spt1 ∧ (camped.sub .sub1).state = .detached ∧ subOf 1 = some .sub1 ∧
    (holding { page with sub := .sub1 } camped).occ 0 = some { page with sub := .sub1 } ∧
    (camped.sub .sub0).miss < camped.sbt.missLimit ∧ granted.sbt.missLimit ≤ ((granted.modSub .sub0 (fun r => { r with miss := 4 })).sub .sub0).miss ∧
    granted.occ (0 % 64) = some { page with state := .granted } ∧ handleAt granted (0 % 64) = 0 :=
  ⟨camped_ready, camped_sized, by decide⟩
/-- R27, R143, R206: DETACH with a context open: its record leaves with no event, then CALL_STATE and SUB_STATE. -/
theorem witness_DetachTearsTheSubscriptionDown_events : linked.ready ∧ linked.linksHold ∧ linked.slotsHold ∧
    look (fun t => ((t.unit .apt).queue.map (fun e => (e.kind, e.cause)), (t.unit .spt0).queue.length))
      (exec (.detach .spt0 9 [0]) linked) = some ([(.callState, 16), (.subState, 27)], 0) :=
  ⟨camped_ready, linked_links, slots_of_no_send _ rfl (by intro i; cases i <;> rfl), by decide +kernel⟩
/-- DETACH of a subscription at the miss limit with the grant passes through ABSENT (log 13). -/
theorem test_detach_at_the_limit_has_prior_absent : look (fun t => ((t.sub .sub0).state, (t.sub .sub0).prior))
    (exec (.detach .spt0 9 [0]) (granted.modSub .sub0 (fun r => { r with miss := 4 }))) = some (.detached, .absent) := by
  decide +kernel
theorem witness_BindUnbindAndResume_resume : (sub0In .absent).ready ∧ subOf 0 = some .sub0 ∧
    ((sub0In .absent).sub .sub0).state = .absent ∧ (sub0In .absent).boundTo .sub0 .spt0 = true ∧
    ((sub0In .absent).unit .apt).queue.length < 32 ∧ (camped.sub .sub0).state ≠ .absent :=
  ⟨camped_ready, by decide⟩

/-- OCC_SUBMIT of a one-shot exact PAGE of SUB0 at frame 4, slot 0, of 64 slots: start 1280. -/
def submitBody : List Octet := [0, 0, 4, 0, 0, 64, 0, 0, 0, 0, 1, 0, 0, 0, 0]

theorem witness_SubmitCancelAndPeriodActOnTheCalendar : camped.ready ∧ camped.sized ∧ (camped.sub .sub0).bound = some .spt0 ∧
    (camped.sub .sub0).state ≠ .detached ∧ camped.anchor .sub0 = some 0 ∧ ∃ o, bodySubmit submitBody = some o ∧
      subOf o.sub = some .sub0 ∧ submitKind o.kind = some .page ∧ submitOk .page o = true ∧
      callLinkOk camped .sub0 .page o.call.get? = true ∧ sendLinkOk camped .sub0 o.send.get? = true ∧ o.period = 0 ∧
      o.exact = 1 ∧ notBefore (addTicks 0 (o.frame * 320 + o.slot * 16)) (addTicks camped.tlu.ht 32) = true ∧
      duplicateOcc camped .sub0 .page (convert camped.tlu.ht 0 o.frame o.slot) = false ∧ recordCount camped < 48 ∧
      subRecordCount camped .sub0 < 32 :=
  ⟨camped_ready, camped_sized, rfl, by decide, rfl, _, rfl, by decide +kernel⟩
/-- Period 1024, and the shortest period that holds the occurrence and its grace. -/
theorem witness_SubmitCancelAndPeriodActOnTheCalendar_live : (holding page camped).ready ∧
    judge (u16 0 0) (holding page camped) = .live 0 page false ∧ ((holding page camped).sub .sub0).bound = some .spt0 ∧
    page.kind ≠ .switch ∧ (holding page camped).belowMissLimit ∧
    judge (u16 0 0) (granting 0 (holding { page with state := .granted } camped)) =
      .live 0 { page with state := .granted } false ∧
    judge (u16 0 0) (holding { page with period := 8 } camped) = .live 0 { page with period := 8 } false ∧
    u16 0 4 ≤ 1024 ∧ page.length * 16 + 128 < u16 1 0 * 320 ∧
    judge (u16 0 0) (holding { page with kind := .switch } camped) = .live 0 { page with kind := .switch } false :=
  ⟨camped_ready, by decide, rfl, by decide, camped_below, by decide⟩
/-- Result 1; the record AWAITING_DONE, GRANTED with the grant, WAITING; and a late handle. -/
theorem witness_DoneResolvesTheOccurrence : camped.ready ∧ (1 : Octet).toNat ≤ 1 ∧ (camped.sub .sub0).bound = some .spt0 ∧
    judge (u16 0 0) (holding { page with state := .awaitingDone } camped) =
      .live 0 { page with state := .awaitingDone } false ∧
    (holding { page with state := .awaitingDone } camped).belowMissLimit ∧
    judge (u16 0 0) (granting 0 (holding { page with state := .granted } camped)) =
      .live 0 { page with state := .granted } false ∧
    (granting 0 camped).tgu.grant = some { handle := 0, sub := .sub0, cls := 0, endHt := 1000 } ∧
    judge (u16 0 0) (holding page camped) = .live 0 page false ∧
    judge (u16 0 0) (camped.modSlot 0 (fun sl => { sl with late := true, kept := some .sub0 })) = .late .sub0 :=
  ⟨camped_ready, by decide, rfl, by decide, camped_below, by decide⟩
/-- A SWITCH record of a SWITCHING subscription, alone. -/
theorem witness_LoneStarterIsGranted_switch :
    starterSlots (holding { page with kind := .switch } (sub0In .switching)) = [0] ∧
    (holding { page with kind := .switch } (sub0In .switching)).occ 0 = some { page with kind := .switch } ∧
    ((sub0In .switching).sub .sub0).state = .switching ∧ inCall (sub0In .switching) .sub1 = false ∧
    look (fun t => t.pins.trxSel) (exec .occasionStart (holding { page with kind := .switch } (sub0In .switching))) =
      some (some .spt0) := by decide +kernel
/-- A PAGE alone; with the other line in call it just fits the allowance of 32 when 30 are used, and not when 31 are. -/
theorem witness_LoneStarterIsGranted : (holding page camped).ready ∧ starterSlots (holding page camped) = [0] ∧
    (holding page camped).occ 0 = some page ∧ ((holding page camped).sub .sub0).state = .camped ∧
    camped.tgu.grant = none ∧ windowDue camped = false ∧ camped.scu.sleep = .awake ∧ inCall camped .sub1 = false ∧
    inCall (calling { line .held with sub := some .sub1 } (holding page camped)) .sub1 = true ∧ page.kind = .page ∧
    page.length ≤ 32 - 30 ∧ 32 - 31 < page.length := ⟨camped_ready, by decide +kernel⟩
/-- A PAGE starts under a grant of slot 1: of class 0 it gives way, of class 3 not. -/
theorem witness_GrantGivesWayOnlyToAHigherClassBelowThree :
    starterSlots (holding { page with kind := .access } camped) = [0] ∧
    (holding { page with kind := .access } camped).occ 0 = some { page with kind := .access } ∧
    OccKind.access ≠ .switch ∧ 1 % 64 ≠ 0 ∧ OccKind.access.base = 3 ∧ OccKind.page.base < 3 ∧
    endDue { camped with tgu := { camped.tgu with grant := some ⟨1, .sub1, 0, 1001⟩ } } = false ∧
    windowDue camped = false ∧ camped.belowMissLimit ∧ inCall camped .sub1 = false ∧ camped.ready ∧
    (camped.sub .sub0).state = .camped ∧ camped.scu.sleep = .awake ∧ asleep.scu.sleep = .deep ∧
    ((sub0In .switching).sub .sub0).state = .switching :=
  ⟨by decide +kernel, rfl, by decide, by decide, rfl, by decide, by decide, by decide, camped_below, by decide,
    camped_ready, rfl, rfl, rfl, rfl⟩
/-- The state with a grant of a MEAS record of SUB1 in slot 1, its end one tick away. -/
def occupied (s : State) : State :=
  { (s.modSlot 1 (fun sl => { sl with
      fresh := false
      occ := some { page with sub := .sub1, kind := .meas, state := .granted, endHt := some 1001 } })) with
    tgu := { s.tgu with grant := some ⟨1, .sub1, 0, 1001⟩ } }

/-- Over that grant: a SWITCH record; a PAGE within the allowance of 32 when 30 are used, and not when 31 are, with the
other line in call; a MEAS then; a PAGE in SWITCHING and in ABSENT. -/
theorem witness_GrantGivesWayOnlyToAHigherClassBelowThree_starters :
    (occupied (holding { page with kind := .switch } (sub0In .switching))).ready ∧
    starterSlots (occupied (holding { page with kind := .switch } (sub0In .switching))) = [0] ∧
    (occupied (holding page camped)).occ (1 % 64) =
      some { page with sub := .sub1, kind := .meas, state := .granted, endHt := some 1001 } ∧ page.period = 0 ∧
    inCall (calling { line .held with sub := some .sub1 } (occupied (holding page camped))) .sub1 = true ∧
    page.length ≤ 32 - 30 ∧ 32 - 31 < page.length ∧
    starterSlots (occupied (holding { page with kind := .meas } camped)) = [0] ∧
    starterSlots (occupied (holding page (sub0In .switching))) = [0] ∧
    starterSlots (occupied (holding page (sub0In .absent))) = [0] ∧
    ((sub0In .absent).sub .sub0).state = .absent ∧ endDue (occupied (holding page camped)) = false ∧
    windowDue (occupied (holding page camped)) = false ∧
    look (fun t => (t.tgu.grant.map (fun g => g.handle), (t.unit .spt1).queue.map (fun e => e.cause)))
      (exec .occasionStart (occupied (holding { page with kind := .switch } (sub0In .switching)))) = some (some 0, [8]) :=
  ⟨camped_ready, by decide +kernel⟩
/-- What R69 and R73 say of a start over a class-3 grant: the starter is lost BUSY. -/
theorem test_a_start_over_class_3_is_lost : look (fun t => (t.unit .spt0).queue.map (fun e => (e.kind, e.cause)))
    (exec .occasionStart ({ occupied (holding { page with kind := .access } camped) with
      tgu := { camped.tgu with grant := some ⟨1, .sub1, 3, 1001⟩ } })) = some [(.occLost, 1)] := by decide +kernel
/-- The end at HT 1000, and one tick later than HT; window 0 of 1024 slots, and HT 16,384 in window 1. -/
theorem witness_OccasionEndAndWindowOpening : (granting 0 (holding { page with state := .granted } camped)).ready ∧
    (granting 0 (holding { page with state := .granted } camped)).occ (0 % 64) = some { page with state := .granted } ∧
    passed 1000 camped.tlu.ht = true ∧ passed 1001 camped.tlu.ht = false ∧ camped.belowMissLimit ∧
    camped.attentionFollows ∧ (atHt 16384 camped).tlu.ht.toNat / 16 / camped.tgu.w ≠ camped.tgu.window ∧
    (atHt 16383 camped).tlu.ht.toNat / 16 / camped.tgu.w = camped.tgu.window :=
  ⟨camped_ready, rfl, by decide, by decide, camped_below, camped_follows, by decide, by decide⟩

/-- A PAGE whose grace has come at HT 1000. -/
def graced : Occasion := { page with state := .awaitingDone, endHt := some 872, grace := some 1000 }

/-- A miss below the limit of 4, and with 3 misses held the one that reaches it. -/
theorem witness_GraceExpiryCountsTheMiss : (holding graced camped).ready ∧ (holding graced camped).occ 0 = some graced ∧
    graced.state = .awaitingDone ∧ graced.grace = some 1000 ∧ passed 1000 camped.tlu.ht = true ∧
    passed 1001 camped.tlu.ht = false ∧ graced.kind ≠ .switch ∧ (camped.sub .sub0).miss + 1 < camped.sbt.missLimit ∧
    (holding graced camped).sized ∧ camped.tgu.grant = none ∧
    camped.sbt.missLimit ≤ ((camped.modSub .sub0 (fun r => { r with miss := 3 })).sub .sub0).miss + 1 :=
  ⟨camped_ready, rfl, rfl, rfl, by decide, by decide, by decide, by decide, ⟨rfl, camped_sized.2⟩, rfl, by decide⟩

/-- SUB0 CAMPED at the miss limit with the grant of a record in slot 0, its end at HT 1000. -/
def atLimit (k : OccKind) : State :=
  (granting 0 (holding { page with kind := k, state := .granted } camped)).modSub .sub0 (fun r => { r with miss := 4 })

/-- A state with the calendar of one record holds it in slot 0. -/
theorem only_record (o x : Occasion) (s : State) (n : Nat) (hs : s.ocl = (holding o camped).ocl) (h : s.occ n = some x) :
    n = 0 ∧ x = o := by
  have hn : s.occ n = (holding o camped).occ n := by unfold State.occ; rw [hs]
  rw [hn] at h
  match n with
  | 0 => cases h; exact ⟨rfl, rfl⟩
  | k + 1 =>
    exact absurd (show camped.occ (k + 1) = some x from h) (by rw [camped_no_record]; exact fun e => nomatch e)
theorem atLimit_held (k : OccKind) : (atLimit k).grantHeld := by
  refine ⟨fun g h => ?_, fun n o h => ?_, fun _ g h => ?_⟩
  · cases h; exact ⟨_, rfl, rfl, rfl, rfl⟩
  · obtain ⟨-, rfl⟩ := only_record _ _ _ n rfl h
    show SubState.camped ≠ .detached
    decide
  · cases h; rfl
/-- A state whose one record, of SUB0, is linked to nothing meets the link rule. -/
theorem links_of_unlinked (o : Occasion) (s : State) (hs : s.ocl = (holding o camped).ocl) (hc : o.callLink = none)
    (hl : o.sendLink = none) : s.linksHold := by
  intro m x h
  obtain ⟨-, rfl⟩ := only_record _ _ _ m hs h
  exact ⟨fun n e => (by rw [hc] at e; exact nomatch e), fun n e => (by rw [hl] at e; exact nomatch e)⟩
theorem quiet_of_one (o : Occasion) (s : State) (n : Nat) (hs : s.ocl = (holding o camped).ocl) (hc : o.callLink = none)
    (hl : o.sendLink = none) (hp : o.period = 0) (hg : o.stagedPeriod = none) : s.quietRearms .sub0 n := by
  refine ⟨fun m x _ h _ _ => ?_, o.start, fun m x h => ?_⟩
  · obtain ⟨-, rfl⟩ := only_record _ _ _ m hs h; exact ⟨hc, hl, .inl hp⟩
  · obtain ⟨-, rfl⟩ := only_record _ _ _ m hs h
    simp [hp, hg, addTicks]
/-- At the miss limit: the end of the grant has come; the record's handle is live, of a PAGE and of a MEAS; every other
hypothesis. -/
theorem witness_AbsentEntryAtTheMissLimit : (atLimit .meas).ready ∧ (atLimit .meas).sized ∧ (atLimit .meas).grantHeld ∧
    (atLimit .meas).linksHold ∧ (atLimit .meas).slotsHold ∧ ((atLimit .meas).sub .sub0).state = .camped ∧
    (atLimit .meas).sbt.missLimit ≤ ((atLimit .meas).sub .sub0).miss ∧
    (atLimit .meas).tgu.grant = some ⟨0, .sub0, 0, 1000⟩ ∧ passed 1000 (atLimit .meas).tlu.ht = true ∧
    ((atLimit .meas).sub .sub0).bound = some .spt0 ∧
    judge (u16 0 0) (atLimit .meas) = .live 0 { page with kind := .meas, state := .granted } false ∧
    (1 : Octet).toNat ≤ 1 ∧ (atLimit .meas).quietRearms .sub0 48 ∧ (atLimit .meas).quietRearms .sub0 0 ∧
    ∃ t, exec .occasionEnd (atLimit .meas) = .next t ∧ t.tgu.grant = none :=
  ⟨camped_ready, ⟨rfl, camped_sized.2⟩, atLimit_held .meas, links_of_unlinked _ _ rfl rfl rfl,
    slots_of_no_send _ rfl (by intro i; cases i <;> rfl), rfl, by decide, rfl, by decide, rfl, by decide, by decide,
    quiet_of_one _ _ _ rfl rfl rfl rfl rfl, quiet_of_one _ _ _ rfl rfl rfl rfl rfl, _, rfl, by decide +kernel⟩
/-- The PAGE of `graced` with 3 misses held, and no grant; a SWITCHING subscription at the limit. -/
theorem witness_AbsentEntryAtTheMissLimit_missed :
    ((holding graced camped).modSub .sub0 (fun r => { r with miss := 3 })).sized ∧
    ((holding graced camped).modSub .sub0 (fun r => { r with miss := 3 })).grantHeld ∧
    ((holding graced camped).modSub .sub0 (fun r => { r with miss := 3 })).linksHold ∧
    ((holding graced camped).modSub .sub0 (fun r => { r with miss := 3 })).slotsHold ∧ min 15 (3 + 1) = 4 ∧
    ((holding graced camped).modSub .sub0 (fun r => { r with miss := 3 })).quietRearms .sub0 48 ∧
    look (fun t => (t.sub .sub0).state) (exec (.graceExpiry 0)
      ((holding graced camped).modSub .sub0 (fun r => { r with miss := 3 }))) = some .absent ∧
    look (fun t => ((t.sub .sub0).state, (t.sub .sub0).prior)) (exec (.graceExpiry 0)
      ((holding { graced with kind := .switch } moving).modSub .sub0 (fun r => { r with miss := 4 }))) =
      some (.absent, .camped) :=
  ⟨⟨rfl, camped_sized.2⟩, ⟨fun _ h => (nomatch h), fun n o h => (by obtain ⟨-, rfl⟩ := only_record graced o _ n rfl h; decide),
    fun _ _ h => (nomatch h)⟩, links_of_unlinked _ _ rfl rfl rfl, slots_of_no_send _ rfl (by intro i; cases i <;> rfl),
    by decide, quiet_of_one _ _ _ rfl rfl rfl rfl rfl, by decide +kernel, by decide +kernel⟩
/-- R29, R30, R206: the end, the cancel and the report at the limit each make SUB0 ABSENT, SUB_STATE with MISS_LIMIT being
the one event. -/
theorem test_the_end_of_a_grant_at_the_limit_is_absent :
    [Instr.occasionEnd, .occCancel .spt0 9 [0, 0], .occDone .spt0 9 [0, 0, 1]].map (fun c =>
      look (fun t => ((t.unit .apt).queue.map (fun e => (e.cause, e.detail)), (t.unit .spt0).queue.length))
        (exec c (atLimit .meas))) = List.replicate 3 (some ([(28, [3, 1, 4, 255, 255])], 0)) := by decide +kernel

/-! ### The hypotheses of the statements are met: cell watch, handover and calls -/

/-- One item of code 1023, channel 6, offset +20. -/
def listBody : List Octet := [0, 1, 255, 3, 6, 0, 20]

theorem witness_CellListSetReplacesTheNeighbours : camped.ready ∧ listBody.length ≤ 248 ∧
    bodyCellList listBody = some (0, [⟨1023, 6, 20⟩]) ∧ subOf 0 = some .sub0 ∧ (camped.sub .sub0).bound = some .spt0 ∧
    [(⟨1023, 6, 20⟩ : CellItem)].length ≤ 15 ∧ (∀ x ∈ [(⟨1023, 6, 20⟩ : CellItem)], x.code ≤ 1023) ∧
    (camped.sub .sub0).state = .camped ∧ [(⟨1023, 6, 20⟩ : CellItem)].Pairwise (fun x y => x.cell ≠ y.cell) ∧
    ((neighbour .tracked none camped).watch .sub0).cells[1]? =
      some ⟨.tracked, some ⟨5, 6⟩, 0, some (-6400), 1, none, none⟩ ∧
    ((neighbour .tracked none camped).watch .sub0).cells.all (fun e => !e.holds ⟨1023, 6⟩) = true ∧
    ((neighbour .tracked none camped).watch .sub0).cells[0]? = some CellEntry.emptyEntry ∧
    ((sub0In .absent).sub .sub0).state = .absent ∧
    ((sub0In .switching).sub .sub0).state = .switching := ⟨camped_ready, by decide⟩

/-- One sample of code 5, channel 6, level -101, with a timing. -/
def sampleBody : List Octet := [0, 1, 5, 0, 6, 0, 155, 255, 1, 232, 3, 0, 0]

theorem witness_MeasReportFiltersTheSample : (neighbour .listed none camped).ready ∧ sampleBody.length ≤ 248 ∧
    bodyMeas sampleBody = some (0, [⟨5, 6, -101, 1, 1000⟩]) ∧ subOf 0 = some .sub0 ∧
    (camped.sub .sub0).bound = some .spt0 ∧ (camped.sub .sub0).state = .camped ∧
    ((neighbour .listed none camped).watch .sub0).cells.findIdx? (fun y => y.holds ⟨5, 6⟩) = some 1 ∧
    (∀ e ∈ (camped.watch .sub0).cells, e.holds ⟨5, 6⟩ = false) ∧
    ((sub0In .switching).sub .sub0).state = .switching ∧ ((sub0In .absent).sub .sub0).state = .absent :=
  ⟨camped_ready, by decide +kernel⟩
/-- Two samples of one cell: the second meets the level the first has left, and the count goes up by two. -/
theorem witness_MeasReportFiltersTheSample_two : bodyMeas (0 :: 2 :: (sampleBody.drop 2 ++ sampleBody.drop 2)) =
      some (0, [⟨5, 6, -101, 1, 1000⟩, ⟨5, 6, -101, 1, 1000⟩]) ∧
    look (fun t => ((t.watch .sub0).cells[1]?.map (fun e => (e.level, e.count))))
      (exec (.measReport .spt0 9 (0 :: 2 :: (sampleBody.drop 2 ++ sampleBody.drop 2))) (neighbour .listed none camped)) =
      some (some (some (filterLevel 2 (some (filterLevel 2 (some (-6400)) (-101))) (-101)), 3)) := by decide +kernel

/-- A best candidate in the evaluation record. -/
def found : Best := ⟨1, 5, 6, 88, -7000, -6400⟩

theorem witness_TriggerExpiriesAndDeclineAct : camped.ready ∧ camped.attentionFollows ∧
    (camped.sub .sub0).bound = some .spt0 ∧ subOf 0 = some .sub0 ∧
    ((camped.modWatch .sub0 (fun w => { w with trigger := .running 1 900 1000, evalRec := some ⟨900, some found⟩ })).watch
      .sub0).trigger = .running 1 900 1000 ∧ passed 1000 camped.tlu.ht = true ∧ passed 1001 camped.tlu.ht = false ∧
    ((camped.modWatch .sub0 (fun w => { w with trigger := .reported 1 1000, evalRec := some ⟨900, none⟩ })).watch
      .sub0).trigger = .reported 1 1000 ∧
    ((neighbour .tracked (some 1000) camped).watch .sub0).cells[1]? =
      some ⟨.tracked, some ⟨5, 6⟩, 0, some (-6400), 1, none, some 1000⟩ ∧ (camped.watch .sub0).trigger = .idle :=
  ⟨camped_ready, camped_follows, by decide⟩
/-- TTT 5121 ms is clamped; a running trigger; SWITCHING. -/
theorem witness_CellConfigClampsAndStages : camped.ready ∧ (camped.sub .sub0).bound = some .spt0 ∧
    subOf 0 = some .sub0 ∧ (1 : Octet).toNat ≤ 1 ∧ (camped.sub .sub0).state ≠ .switching ∧
    (∀ c x e, (camped.watch .sub0).trigger ≠ .running c x e) ∧
    ((setTrigger .sub0 (.running 1 900 1100) camped).watch .sub0).trigger = .running 1 900 1100 ∧
    passed (addTicks 900 (min 5120 (u16 1 20) * 32)) camped.tlu.ht = false ∧
    passed (addTicks 900 (min 5120 (u16 3 0) * 32)) camped.tlu.ht = true ∧
    passed (addTicks 900 (min 5120 (u16 4 0) * 32)) camped.tlu.ht = false ∧
    ((sub0In .switching).sub .sub0).state = .switching ∧ ((sub0In .switching).sub .sub0).bound = some .spt0 :=
  ⟨camped_ready, rfl, rfl, by decide, by decide, fun _ _ _ h => (nomatch h), rfl, by decide, by decide, by decide, rfl,
    rfl⟩
/-- R110: a TTT of 3 ms given to a run of 100 ticks reports the candidate at once; one of 4 ms moves the expiry. -/
theorem test_a_ttt_already_passed_reports : [3, 4].map (fun n : Octet =>
    look (fun t => ((t.watch .sub0).trigger.code, (t.unit .spt0).queue.map (fun e => e.kind)))
      (exec (.cellConfig .spt0 9 [0, 0, 0, 0, 0, 1, n, 0, 0, 0, 0, 0, 0, 0, 0, 0])
        (camped.modWatch .sub0 (fun w => { w with trigger := .running 1 900 1100, evalRec := some ⟨900, some found⟩ })))) =
    [some (2, [.hoCandidate]), some (1, [])] := by decide +kernel
theorem witness_SwitchBeginHoldsTheSubscription : (neighbour .tracked none camped).ready ∧
    (neighbour .tracked none camped).sized ∧ (camped.sub .sub0).bound = some .spt0 ∧ subOf 0 = some .sub0 ∧
    u16 255 3 ≤ 1023 ∧ (19 : Octet).toNat ≤ 19 ∧ (64 : Octet).toNat ≤ 64 ∧ (camped.sub .sub0).state = .camped ∧
    camped.anchor .sub0 = some 0 ∧ ((neighbour .tracked none camped).watch .sub0).cells[1]? =
      some ⟨.tracked, some ⟨5, 6⟩, 0, some (-6400), 1, none, none⟩ ∧
    ((neighbour .tracked (some 2000) camped).watch .sub0).cells[1]? =
      some ⟨.tracked, some ⟨5, 6⟩, 0, some (-6400), 1, none, some 2000⟩ ∧
    recordCount (neighbour .tracked none camped) < 48 ∧ subRecordCount (neighbour .tracked none camped) .sub0 < 32 ∧
    ((sub0In .absent).sub .sub0).state ≠ .camped ∧ ((sub0In .absent).sub .sub0).bound = some .spt0 :=
  ⟨camped_ready, ⟨rfl, by intro i; cases i <;> rfl, camped_sized.2.2⟩, rfl, rfl, by decide, by decide, by decide, rfl,
    rfl, rfl, rfl, by decide, by decide, by decide, rfl⟩

/-- SUB0 SWITCHING to entry 1, its SWITCH occasion WAITING in slot 0. -/
def switching : State :=
  (neighbour .tracked none (holding { page with kind := .switch } (sub0In .switching))).modWatch .sub0
    (fun w => { w with switchRec := some ⟨1, 5, 6, 0⟩ })

/-- SUCCESS with an anchor operand; with a stored timing and without one; FAILURE; a grant the SWITCH record holds. -/
theorem witness_SwitchEndClosesTheSwitch : switching.ready ∧ (switching.sub .sub0).bound = some .spt0 ∧
    subOf 0 = some .sub0 ∧ (switching.sub .sub0).state = .switching ∧
    (switching.watch .sub0).switchRec = some ⟨1, 5, 6, 0⟩ ∧
    switching.occ (0 % 64) = some { page with kind := .switch } ∧ page.period = 0 ∧ switching.belowMissLimit ∧
    (switching.watch .sub0).cells[1]? = some ⟨.tracked, some ⟨5, 6⟩, 0, some (-6400), 1, none, none⟩ ∧
    (CellEntry.mk .tracked (some ⟨5, 6⟩) 0 (some (-6400)) 1 (some 900) none).timing ≠ none ∧
    (1 : Octet).toNat ≤ 1 ∧ (granting 2 switching).tgu.grant = some ⟨0, .sub0, 2, 1000⟩ ∧ handleAt switching (0 % 64) = 0 ∧
    (camped.sub .sub0).state ≠ .switching :=
  ⟨camped_ready, rfl, rfl, rfl, rfl, rfl, rfl, (by intro i; cases i <;> decide), rfl, by decide, by decide, rfl,
    by decide, by decide⟩
/-- R57, R120, R121: SUCCESS under anchor 64 re-times the record of slot 1 and sends SUB_STATE; with anchor 31 it is lost. -/
theorem test_switch_end_retimes_and_counts : ([(64 : Octet), 31]).map (fun a =>
    look (fun t => ((t.occ 1).map (fun o => o.start), (t.unit .apt).queue.map (fun e => (e.cause, e.detail))))
      (exec (.switchEnd .spt0 9 [0, 0, 1, a, 0, 0, 0])
        (switching.modSlot 1 (fun sl => { sl with fresh := false, occ := some page })))) =
    [some (some 1064, [(31, [1, 2, 0, 5, 0])]), some (none, [(31, [1, 2, 0, 5, 0])])] ∧
    look (fun t => (t.unit .spt0).response.map (fun r => (r[3 + 9]?, r[3 + 10]?)))
      (exec (.switchEnd .spt0 9 [0, 0, 1, 31, 0, 0, 0])
        (switching.modSlot 1 (fun sl => { sl with fresh := false, occ := some page }))) =
    some (some (some 1, some 1)) := by decide +kernel
/-- The SWITCH record of `switching`, AWAITING_DONE with its grace at HT 1000. -/
def overdue : State :=
  (holding { page with kind := .switch, state := .awaitingDone, grace := some 1000 } switching)

/-- The timeout; a loss at a class-3 grant, in DEEP, and with the other line in call. -/
theorem witness_ThePartClosesASwitch : overdue.ready ∧
    overdue.occ 0 = some { page with kind := .switch, state := .awaitingDone, grace := some 1000 } ∧
    (overdue.sub .sub0).state = .switching ∧ (overdue.watch .sub0).switchRec = some ⟨1, 5, 6, 0⟩ ∧
    (overdue.sub .sub0).miss < overdue.sbt.missLimit ∧ (overdue.watch .sub0).trigger = .idle ∧
    (overdue.sub .sub0).stagedWaiting = false ∧ expired (some 1000) overdue.tlu.ht = true ∧
    starterSlots switching = [0] ∧ endDue switching = false ∧ windowDue switching = false ∧
    switching.scu.sleep = .awake ∧ inCall switching .sub1 = false ∧
    endDue { switching with tgu := { switching.tgu with grant := some ⟨1, .sub1, 3, 1001⟩ } } = false ∧
    ({ switching with scu := { switching.scu with sleep := .deep } } : State).scu.sleep = .deep ∧
    inCall (calling { line .held with sub := some .sub1 } switching) .sub1 = true ∧
    starterSlots (calling { line .held with sub := some .sub1 } switching) = [0] := ⟨camped_ready, by decide +kernel⟩
/-- One digit; an incoming reference of 40 with no digits. -/
theorem witness_DialAndIncomingTakeAContext : camped.ready ∧ (camped.sub .sub0).state = .camped ∧
    ctxCount camped .sub0 < 2 ∧ camped.ctx 0 = some CallCtx.reset ∧ CallCtx.reset.state = .idle ∧
    bodyDial [0, 1, 49] = some (0, [49]) ∧ digitsOk 32 [49] = true ∧ subOf 0 = some .sub0 ∧
    inCall camped .sub1 = false ∧ bodyIncoming [0, 40, 0, 0] = some (0, 40, []) ∧ digitsOk 32 [] = true ∧
    referenceHeld camped .sub0 40 = false ∧ (camped.sub .sub0).bound = some .spt0 ∧
    digitsOk 32 (List.replicate 32 49) = true := ⟨camped_ready, by decide +kernel⟩
theorem witness_CallRequestsOfTheApplication : (calling (line .connected) camped).ready ∧
    (calling { line .alerting with direction := some .mt } camped).ctx 0 =
      some { line .alerting with direction := some .mt } ∧
    (calling (line .connected) camped).ctx 0 = some (line .connected) ∧
    (calling (line .held) camped).ctx 0 = some (line .held) ∧
    (calling { line .releasing with timer := some 2000 } camped).ctx 0 =
      some { line .releasing with timer := some 2000 } ∧
    (line .held).sub = some .sub0 ∧ (camped.sub .sub0).bound = some .spt0 ∧ inCall camped .sub1 = false :=
  ⟨camped_ready, by decide +kernel⟩
/-- A DIALING context told SETUP, an ALERTING one told CONNECTED, the other line in call and holding class 3. -/
theorem witness_ProgressMovesTheContext : (calling (line .dialing) camped).ready ∧
    (calling (line .dialing) camped).ctx 0 = some (line .dialing) ∧ (line .dialing).sub = some .sub0 ∧
    (camped.sub .sub0).bound = some .spt0 ∧ (calling (line .alerting) camped).ctx 0 = some (line .alerting) ∧
    otherConnected (calling (line .alerting) camped) 0 .sub0 = false ∧ inCall camped .sub1 = false ∧
    camped.cct.hold.get .sub1 = false ∧ camped.tgu.grant = none ∧
    otherConnected ((calling (line .held) camped).setCtx 1 (line .connected)) 0 .sub0 = true ∧
    inCall ((calling (line .alerting) camped).setCtx 1 { line .held with sub := some .sub1 }) .sub1 = true ∧
    otherConnected ((calling (line .alerting) camped).setCtx 1 { line .held with sub := some .sub1 }) 0 .sub0 = false ∧
    ({ camped with cct := { camped.cct with hold := ⟨false, true⟩ } } : State).cct.hold.get .sub1 = true :=
  ⟨camped_ready, by decide +kernel⟩
/-- R76: SUB0 becomes in call over a grant of class 0 of a MEAS record of SUB1. -/
theorem witness_ProgressMovesTheContext_preempted :
    (granting 0 (holding { page with sub := .sub1, kind := .meas, state := .granted } camped)).occ (0 % 64) =
      some { page with sub := .sub1, kind := .meas, state := .granted } ∧
    inCall (calling (line .alerting) camped) .sub0 = false ∧ (calling (line .alerting) camped).belowMissLimit ∧
    OccKind.meas ≠ .page ∧ OccKind.meas.base < 3 ∧ page.period = 0 :=
  ⟨rfl, by decide, camped_below, by decide, by decide, rfl⟩
theorem witness_EndedContextIsIdleAndItsRecordsAreRemoved : (calling (line .setup) camped).ready ∧
    (calling (line .setup) camped).ctx 0 = some (line .setup) ∧ (line .setup).sub = some .sub0 ∧
    (camped.sub .sub0).bound = some .spt0 ∧ (calling (line .setup) camped).belowMissLimit ∧ (line .setup).state ≠ .idle ∧
    (calling { line .dialing with timer := some 1000 } camped).ctx 0 = some { line .dialing with timer := some 1000 } ∧
    expired (some 1000) camped.tlu.ht = true ∧ expired (some 1001) camped.tlu.ht = false ∧
    (calling { line .releasing with timer := some 1000 } camped).ctx 0 =
      some { line .releasing with timer := some 1000 } ∧
    (holding { page with kind := .traffic, callLink := some 0 } camped).occ 0 =
      some { page with kind := .traffic, callLink := some 0 } ∧
    linkedToCall 0 { page with kind := .traffic, callLink := some 0 } = true ∧ linkedToCall 0 page = false :=
  ⟨camped_ready, rfl, rfl, rfl, camped_below, by decide +kernel⟩
/-- R60, R139: at SETUP_EXPIRY the linked record's OCC_ENDED comes before CALL_RELEASE_REQ. -/
theorem witness_EndedContextIsIdleAndItsRecordsAreRemoved_events : linked.ready ∧ linked.linksHold ∧
    linked.ctx 0 = some { line .dialing with timer := some 1000 } ∧
    look (fun t => (t.unit .spt0).queue.map (fun e => (e.kind, e.cause))) (exec (.setupExpiry 0) linked) =
      some [(.occEnded, 9), (.callReleaseReq, 14)] :=
  ⟨camped_ready, linked_links, rfl, by decide +kernel⟩

/-! ### The hypotheses of the statements are met: text, sleep and ports -/

/-- A segment of SUB0, reference 9, no originator, one payload octet, with a total and a sequence. -/
def segmentBody (total seq : Octet) : List Octet := [0, 9, total, seq, 0, 65]

/-- An ASSEMBLING entry of key (SUB0, 9), of two segments of which the first is held in buffer 0, expiring at HT 1000. -/
def half : InMsg := { sub := .sub0, reference := 9, total := 2, segs := [⟨1, 0⟩], originator := none }

/-- The state with it in entry 0. -/
def gathering : State :=
  camped.modTxs (fun t => { t with
    entries := t.entries.set 0 (.assembling half 900 1000), pool := t.pool.set 0 (some [64]) })

/-- The entry waiting for two more of three segments; a full inbox. -/
theorem witness_SegmentsGatherInAnEntry_more : bodySegment (segmentBody 3 2) = some ⟨0, 9, 3, 2, [], [65]⟩ ∧
    (camped.modTxs (fun t => { t with entries := [.assembling { half with total := 3 } 900 1000] })).txs.entries[0]? =
      some (.assembling { half with total := 3 } 900 1000) ∧ half.segs.length + 1 ≠ 3 ∧
    matchEntry .sub0 9 [.assembling { half with total := 3 } 900 1000] = some 0 ∧
    16 ≤ (gathering.modTxs (fun t => { t with inbox := List.replicate 16 arrived })).txs.inbox.length :=
  ⟨rfl, rfl, by decide, by decide, by decide⟩
theorem witness_SegmentsGatherInAnEntry : camped.ready ∧ bodySegment (segmentBody 1 1) = some ⟨0, 9, 1, 1, [], [65]⟩ ∧
    bodySegment (segmentBody 2 1) = some ⟨0, 9, 2, 1, [], [65]⟩ ∧ bodySegment (segmentBody 3 1) = some ⟨0, 9, 3, 1, [], [65]⟩ ∧
    bodySegment (segmentBody 2 2) = some ⟨0, 9, 2, 2, [], [65]⟩ ∧ subOf 0 = some .sub0 ∧
    (camped.sub .sub0).bound = some .spt0 ∧ (camped.sub .sub0).state ≠ .detached ∧ digitsOk 20 [] = true ∧
    freeBuffer camped.txs.pool = some 0 ∧ freeBuffer gathering.txs.pool = some 1 ∧ camped.txs.inbox.length < 16 ∧
    matchEntry .sub0 9 camped.txs.entries = none ∧ freeEntry camped.txs.entries = some 0 ∧
    matchEntry .sub0 9 gathering.txs.entries = some 0 ∧ gathering.txs.entries[0]? = some (.assembling half 900 1000) ∧
    (∃ g ∈ half.segs, g.seq = 1) ∧ (∀ g ∈ half.segs, g.seq ≠ 2) ∧ half.segs.length + 1 = half.total ∧
    half.segs.Pairwise (fun g h => g.seq < h.seq) := ⟨camped_ready, rfl, rfl, rfl, rfl, by decide +kernel⟩

/-- Every entry of the store ASSEMBLING, entry 0 with the oldest last arrival; the key (SUB0, 9) is free. -/
def crowded : State :=
  camped.modTxs (fun t => { t with
    entries := .assembling { half with reference := 1 } 800 2000 ::
      List.replicate 7 (.assembling { half with sub := .sub1 } 900 2000) })

/-- No buffer; a whole message with a full inbox and a FREE entry; no FREE entry; all COMPLETE. -/
theorem witness_FullStoreEvictsWaitsOrRefuses : crowded.ready ∧ bodySegment (segmentBody 1 1) = some ⟨0, 9, 1, 1, [], [65]⟩ ∧
    bodySegment (segmentBody 2 2) = some ⟨0, 9, 2, 2, [], [65]⟩ ∧ subOf 0 = some .sub0 ∧
    (camped.sub .sub0).bound = some .spt0 ∧ (camped.sub .sub0).state ≠ .detached ∧ digitsOk 20 [] = true ∧
    freeBuffer (List.replicate 64 (some [64])) = none ∧ freeBuffer crowded.txs.pool ≠ none ∧
    16 ≤ (camped.modTxs (fun t => { t with inbox := List.replicate 16 arrived })).txs.inbox.length ∧
    freeEntry camped.txs.entries = some 0 ∧ matchEntry .sub0 9 crowded.txs.entries = none ∧
    freeEntry crowded.txs.entries = none ∧ matchEntry .sub0 9 gathering.txs.entries = some 0 ∧
    crowded.txs.entries[0]? = some (.assembling { half with reference := 1 } 800 2000) ∧
    before 800 900 = true ∧ before 900 800 = false ∧
    (∀ j < 7, crowded.txs.entries[j + 1]? = some (.assembling { half with sub := .sub1 } 900 2000)) ∧
    (∀ x ∈ List.replicate 8 (Reasm.complete half true [2] 950), x.isComplete = true) :=
  ⟨camped_ready, rfl, rfl, by decide +kernel⟩
/-- The timeout at HT 1000 and one tick later; a full inbox; partial delivery off; a held message and a waiting one. -/
theorem witness_ReassemblyTimeoutAndRelease : gathering.ready ∧
    gathering.txs.entries[0]? = some (.assembling half 900 1000) ∧ passed 1000 gathering.tlu.ht = true ∧
    passed 1001 gathering.tlu.ht = false ∧ gathering.txs.partialOn = true ∧ gathering.txs.inbox.length < 16 ∧
    16 ≤ (gathering.modTxs (fun t => { t with inbox := List.replicate 16 arrived })).txs.inbox.length ∧
    (gathering.modTxs (fun t => { t with partialOn := false })).txs.partialOn = false ∧
    [arrived].Pairwise (fun y z => y.id ≠ z.id) ∧ arrived.id = (0 : Octet).toNat ∧
    (∀ e ∈ camped.txs.entries, e.isComplete = false) ∧
    oldestComplete (camped.txs.entries.set 0 (.complete half true [2] 950)) = some (0, half, true, [2], 950) ∧
    ∀ x ∈ camped.txs.inbox, x.id ≠ (0 : Octet).toNat := ⟨camped_ready, by decide +kernel⟩
/-- The earliest of three completions, the lower index of two at one HT. -/
theorem witness_ReassemblyTimeoutAndRelease_oldest :
    oldestComplete [.complete half true [2] 960, .complete half true [2] 950, .complete half true [2] 950] =
      some (1, half, true, [2], 950) ∧ notBefore 950 950 = true ∧ notBefore 960 950 = true := by decide +kernel
theorem witness_ComposeFillAndCommitASend : camped.ready ∧ bodyCompose [0, 1, 49, 16, 1] = some ⟨0, [49], 16, 1⟩ ∧
    subOf 0 = some .sub0 ∧ digitsOk 20 [49] = true ∧ 16 ≤ freeCountOf camped.txs.pool ∧
    heldBySends camped + 16 ≤ 32 ∧ freeSendId camped = some 0 ∧
    (sending (oneSegment .composing false .pending) camped).send 0 = some (oneSegment .composing false .pending) ∧
    (oneSegment .composing false .pending).segs[1 - 1]? = some ⟨0, false, .pending⟩ ∧
    (sending (oneSegment .composing true .pending) camped).send 0 = some (oneSegment .composing true .pending) ∧
    (∀ g ∈ (oneSegment .composing true .pending).segs, g.filled = true) ∧ (camped.sub .sub0).state = .camped ∧
    camped.txs.staged.get .sub0 = none ∧ camped.txs.active.get .sub0 = none ∧
    ((camped.modTxs (fun t => { t with active := ⟨some 1, none⟩ })).txs.active.get .sub0).isSome = true :=
  ⟨camped_ready, rfl, by decide +kernel⟩
theorem witness_AbandonAndCloseFreeTheSend : (sending (oneSegment .sending true .pending) camped).ready ∧
    (sending (oneSegment .sending true .pending) camped).belowMissLimit ∧ (0 : Octet).toNat ≤ 3 ∧
    (sending (oneSegment .composing false .pending) camped).send 0 = some (oneSegment .composing false .pending) ∧
    (sending (oneSegment .staged true .pending) camped).send 0 = some (oneSegment .staged true .pending) ∧
    (sending (oneSegment .sending true .pending) camped).send 0 = some (oneSegment .sending true .pending) ∧
    (sending (oneSegment .kept true .sent) camped).send 0 = some (oneSegment .kept true .sent) ∧
    camped.txs.staged.get .sub0 = none ∧
    ((sending (oneSegment .sending true .pending) camped).setSend 1 (some (oneSegment .staged true .pending))).send 1 =
      some (oneSegment .staged true .pending) ∧ (camped.sub .sub0).state = .camped ∧
    ((sub0In .absent).sub .sub0).state ≠ .camped :=
  ⟨camped_ready, camped_below, by decide +kernel⟩
/-- An abandon in SENDING with a STAGED send and no linked record. -/
theorem witness_AbandonAndCloseFreeTheSend_events :
    (∀ n < 48, (sending { oneSegment .sending true .sent with serial := some 7 } camped).occ n = none) ∧
    look (fun t => ((t.unit .apt).queue.map (fun e => (e.kind, e.cause, e.detail)),
        (t.unit .spt0).queue.map (fun e => (e.kind, e.cause))))
      (exec (.textAbandon .apt 9 [0]) (((sending { oneSegment .sending true .sent with serial := some 7 } camped).setSend 1
        (some { oneSegment .staged true .pending with serial := some 8 })).modTxs (fun t =>
          { t with active := ⟨some 0, none⟩, staged := ⟨some 1, none⟩ }))) =
      some ([(.textSent, 24, [3, 7, 0, 1, 0, 0])], [(.textSendStopped, 21), (.textOutbound, 0)]) := by
  decide +kernel

/-- A SENDING record of two segments, the first TAKEN. -/
def twoSegments (persist : Bool) (second : SegOutcome) : SendRec :=
  { oneSegment .sending true .taken with persist := persist, serial := some 7, segs := [⟨0, true, .taken⟩, ⟨1, true, second⟩] }

theorem witness_TakeAndResultMoveASegment : (sending (twoSegments true .pending) camped).ready ∧
    (sending (twoSegments true .pending) camped).send 0 = some (twoSegments true .pending) ∧
    (camped.sub .sub0).bound = some .spt0 ∧ (twoSegments true .pending).segs[1 - 1]? = some ⟨0, true, .taken⟩ ∧
    (twoSegments true .pending).segs[2 - 1]? = some ⟨1, true, .pending⟩ ∧ (twoSegments true .pending).serial = some 7 ∧
    (sending (twoSegments true .pending) camped).txs.pool[0]? = some (some [7]) ∧
    (twoSegments true .sent).segs[2 - 1]? = some ⟨1, true, .sent⟩ ∧
    (∃ h ∈ (twoSegments true .pending).segs.set 0 ⟨0, true, .failed 3⟩, h.outcome = .pending ∨ h.outcome = .taken) :=
  ⟨camped_ready, rfl, rfl, rfl, rfl, rfl, rfl, rfl, by decide⟩
/-- The five ends: all SENT; PARTIAL after an OK and after a FAIL; FAILED with persist on, and with persist off, where the
PENDING segment is SKIPPED; no record linked to the send, and one. -/
theorem witness_LastResultFinishesTheSend : (sending (twoSegments true .sent) camped).ready ∧
    (sending (twoSegments true .sent) camped).belowMissLimit ∧ camped.txs.staged.get .sub0 = none ∧
    (sending (twoSegments true .sent) camped).send 0 = some (twoSegments true .sent) ∧
    (twoSegments true .sent).segs[1 - 1]? = some ⟨0, true, .taken⟩ ∧ (camped.sub .sub0).bound = some .spt0 ∧
    (∀ h ∈ (twoSegments true .sent).segs.set 0 ⟨0, true, .sent⟩, h.outcome = .sent) ∧
    (∃ h ∈ (twoSegments true (.failed 3)).segs.set 0 ⟨0, true, .sent⟩, ∃ x, h.outcome = .failed x) ∧
    (∃ h ∈ (twoSegments true .sent).segs.set 0 ⟨0, true, .failed 3⟩, h.outcome = .sent) ∧
    (∀ h ∈ (twoSegments true (.failed 3)).segs.set 0 ⟨0, true, .failed 4⟩, h.outcome ≠ .sent ∧ h.outcome ≠ .pending) ∧
    (twoSegments false .pending).persist = false ∧
    ((twoSegments false .pending).segs.set 0 ⟨0, true, .failed 3⟩).map (fun h =>
      if h.outcome = .pending ∨ h.outcome = .taken then { h with outcome := .skipped } else h) =
        [⟨0, true, .failed 3⟩, ⟨1, true, .skipped⟩] ∧
    slotsWhere (linkedToSend 0) (sending (twoSegments true .sent) camped) = [] ∧
    slotsWhere (linkedToSend 0) (holding { page with kind := .text, sendLink := some 0 } camped) = [0] :=
  ⟨camped_ready, camped_below, rfl, rfl, rfl, rfl, by decide, ⟨_, .tail _ (.head _), 3, rfl⟩, by decide, by decide, rfl,
    rfl, by decide +kernel, by decide +kernel⟩
/-- Every vote DEEP_OK, the ratio valid, and an evaluation owed: DEEP is entered. -/
def drowsy : State :=
  { camped with evalDue := true
                scu := { camped.scu with votes := ⟨.deepOk, .deepOk, .deepOk⟩, sleep := .doze, valid := true } }

theorem witness_VotesAndSettingsAreKept : camped.ready ∧ voteOf (2 : Octet).toNat = some .deepOk ∧
    camped.scu.votes.get .apt ≠ .deepOk ∧ camped.scu.sleep = .awake ∧ voteOf (0 : Octet).toNat = some .stayAwake ∧
    camped.scu.votes.get .apt = .stayAwake ∧ 2 < (3 : Octet).toNat ∧ (1 : Octet).toNat ≤ 1 :=
  ⟨camped_ready, by decide⟩
theorem witness_DeepIsEnteredOnlyWithAPlan : drowsy.evalDue = true ∧ drowsy.scu.sleep = .doze ∧ drowsy.ratioInRange ∧
    (runEval drowsy).scu.sleep = .deep := ⟨rfl, rfl, ⟨by decide, by decide, by decide⟩, by decide +kernel⟩
/-- The state of `drowsy` with the one record of slot 0 starting at an HT. -/
def drowsyWith (start : HT) : State := { drowsy with ocl := (holding { page with start := start } camped).ocl }

/-- L is 64 and U 50 ppm: with the start at 1225, D is 161 and M 1, so that D - M is 160 and DEEP is entered; at 1224 it
is DOZE. -/
theorem witness_DeepIsEnteredOnlyWithAPlan_converse : (drowsyWith 1225).evalDue = true ∧
    (drowsyWith 1225).scu.sleep = .doze ∧ (∀ p, (drowsyWith 1225).scu.votes.get p = .deepOk) ∧
    (drowsyWith 1225).tgu.grant = none ∧ (∀ c ∈ (drowsyWith 1225).cct.ctxs, c.state = .idle) ∧
    (drowsyWith 1225).scu.valid = true ∧ (drowsyWith 1225).scu.due = false ∧ (drowsyWith 1225).scu.cal = .idle ∧
    (drowsyWith 1225).scu.refUp = true ∧ earliestEligible (drowsyWith 1225) = some 1225 ∧
    ((1225 : HT) - BitVec.ofNat 32 64 - 1000).toInt = 161 ∧ 161 * 50 ≤ 1 * 1000000 ∧ 1 + 160 ≤ 161 ∧
    ((1225 : HT) - 1000 + 1048576).toNat ≤ 2097152 ∧
    (runEval (drowsyWith 1225)).scu.sleep = .deep ∧ (runEval (drowsyWith 1224)).scu.sleep = .doze :=
  ⟨rfl, rfl, (by intro p; cases p <;> rfl), by decide +kernel⟩
/-- Asleep at HT 1000 under a plan for a wake point with lead 64. -/
def planned (wp : HT) : State :=
  { asleep with tlu := camped.tlu, tgu := camped.tgu, scu := { asleep.scu with plan := some ⟨900, 1280, 64, 316, wp, 9⟩ } }

/-- A vote away from DEEP_OK, and the vote that makes all three DEEP_OK; a record at 1280, which is Wp + L of the wake
point 1216 and before that of 1217. -/
theorem witness_DeepIsLeftOnlyForItsReasons : (planned 1216).ready ∧ (planned 1216).scu.sleep = .deep ∧
    voteOf 2 = some .deepOk ∧ (planned 1216).scu.votes.get .apt ≠ .deepOk ∧
    ((planned 1216).scu.votes.set .apt .deepOk).get .spt0 ≠ .deepOk ∧
    (∀ y, ((⟨.deepOk, .deepOk, .stayAwake⟩ : PerPort Vote).set .apt .deepOk).get y = .deepOk) ∧
    (planned 1216).scu.plan = some ⟨900, 1280, 64, 316, 1216, 9⟩ ∧ ((planned 1216).sub .sub0).state ≠ .absent ∧
    before 1280 (addTicks 1216 64) = false ∧ before 1280 (addTicks 1217 64) = true ∧ (planned 1216).tgu.grant = none ∧
    (∀ c ∈ (planned 1216).cct.ctxs, c.state = .idle) ∧
    look (fun t => t.scu.sleep) (exec (.callDial .apt 9 [0, 1, 49]) (planned 1216)) = some .waking ∧
    look (fun t => (t.scu.sleep, (t.occ 0).isSome)) (exec (.occSubmit .spt0 9 submitBody) (planned 1216)) =
      some (.deep, true) ∧
    look (fun t => (t.scu.sleep, (t.occ 0).isSome)) (exec (.occSubmit .spt0 9 submitBody) (planned 1217)) =
      some (.waking, true) :=
  ⟨camped_ready, rfl, rfl, by decide, by decide, (by intro y; cases y <;> rfl), rfl, by decide, by decide, by decide, rfl,
    by decide, by decide +kernel, by decide +kernel, by decide +kernel⟩
/-- PORT_RESET in DEEP begins WAKING; a slow cycle does with the wake timer at 0, and not at 1. -/
theorem witness_DeepIsLeftOnlyForItsReasons_left : (planned 1216).belowMissLimit ∧
    look (fun t => t.scu.sleep) (exec (.portReset .apt 9 []) (planned 1216)) = some .waking ∧
    ([0, 1] : List Nat).map (fun n => look (fun t => t.scu.sleep) (exec (.slowCycle 600)
      { planned 1216 with scu := { (planned 1216).scu with wakeTimer := some n } })) = [some .waking, some .deep] :=
  ⟨(by intro i; cases i <;> decide), by decide +kernel⟩
/-- The bounds of R183: at n = 12, C of 2,400,000 gives 16,384,000 and 2,397,000 gives 16,363,520; at n = 15 the bounds
16,367,616 and 16,400,384 themselves are reached. One slow cycle short of 2^12. -/
theorem witness_CalibrationStartsAndEnds : camped.ready ∧ camped.scu.cal = .idle ∧ camped.scu.sleep = .awake ∧
    camped.scu.refUp = true ∧ asleep.scu.cal = .idle ∧ asleep.scu.sleep = .deep ∧
    calibrating.scu.cal = .running ⟨12, true, 0, 0⟩ ∧ 2 ^ 12 ≤ 4096 ∧ 4095 < 2 ^ 12 ∧
    (2400000 * 2 ^ (24 - 12) + 300) / 600 = 16384000 ∧ (2397000 * 2 ^ (24 - 12) + 300) / 600 < 16367616 ∧
    (19180800 * 2 ^ (24 - 15) + 300) / 600 = 16367616 ∧ (19219200 * 2 ^ (24 - 15) + 300) / 600 = 16400384 ∧
    ∀ r, camped.scu.cal ≠ .running r :=
  ⟨camped_ready, rfl, rfl, rfl, rfl, rfl, rfl, by decide, by decide, by decide, by decide, by decide, by decide,
    fun _ h => (nomatch h)⟩
/-- R183, R184: a calibration of n = 15 with R' at the lower and the upper bound is taken, one past it is not. -/
theorem test_calibration_bounds : [19180799, 19180800, 19219200, 19219201].map (fun c => look (fun t => t.scu.ratio)
    (exec (.calibrationComplete 600) { camped with scu := { camped.scu with cal := .running ⟨15, true, 32768, c⟩ } })) =
    [some 16384000, some 16367616, some 16400384, some 16384000] := by decide +kernel
theorem test_calibration_waits_for_its_cycles : look (fun t => t.scu.cal)
    (exec (.calibrationComplete 600) { camped with scu := { camped.scu with cal := .running ⟨12, true, 4095, 9⟩ } }) =
    some (.running ⟨12, true, 4095, 9⟩) := by decide +kernel
/-- Asleep with the wake timer at 0 and nothing else due. -/
def waking0 : State := { asleep with scu := { asleep.scu with wakeTimer := some 0 } }

theorem witness_SleepExpiriesAndRefReadyAct : camped.ready ∧ camped.attentionFollows ∧
    passed 1000 camped.tlu.ht = true ∧ passed 1001 camped.tlu.ht = false ∧
    ({ camped.scu with recalExpiry := some 1000 } : Scu).recalExpiry = some 1000 ∧
    ({ camped.scu with sleep := .doze, dozeExpiry := some 1000 } : Scu).sleep = .doze ∧ waking0.ready ∧
    waking0.scu.sleep = .deep ∧ waking0.scu.wakeTimer = some 0 ∧ settleExpiries waking0 = waking0 ∧
    ({ waking0.scu with sleep := .waking, cal := .pending } : Scu).sleep = .waking ∧
    (∃ p, camped.scu.votes.get p = .stayAwake) ∧ (∃ p, (⟨.deepOk, .dozeOk, .deepOk⟩ : PerPort Vote).get p = .dozeOk) ∧
    (∀ p, drowsy.scu.votes.get p = .deepOk) ∧ State.reset.ready ∧
    State.reset.scu.refUp = false ∧ (∀ p, State.reset.scu.votes.get p = .stayAwake) ∧ camped.scu.refUp = true :=
  ⟨camped_ready, camped_follows, by decide, by decide, rfl, rfl, camped_ready, rfl, rfl, by decide +kernel, rfl,
    ⟨.apt, rfl⟩, ⟨.spt1, rfl⟩, (by intro p; cases p <;> rfl),
    ⟨rfl, rfl, rfl⟩, rfl, (by intro p; cases p <;> rfl), rfl⟩
theorem witness_EventQueueAndFetch_fetch : State.reset.ready ∧ 1 ≤ (8 : Octet).toNat ∧ (8 : Octet).toNat ≤ 8 ∧
    (0 : Octet).toNat = 0 ∧ 8 < (9 : Octet).toNat ∧ (State.reset.unit .apt).latch = none ∧
    (latchRefusal .apt 3 9 .badField State.reset).ready ∧
    ((latchRefusal .apt 3 9 .badField State.reset).unit .apt).latch = some ⟨3, 9, 4, 0⟩ :=
  ⟨⟨rfl, rfl, rfl⟩, by decide, by decide, by decide, by decide, rfl, ⟨rfl, rfl, rfl⟩, by decide⟩
/-- With no last calibration, with one whose expiry is to come, and with one whose expiry has passed. -/
theorem witness_PortResetAndPartReset : camped.ready ∧ asleep.ready ∧ camped.scu.sleep = .awake ∧
    asleep.scu.sleep = .deep ∧ camped.scu.due = false ∧ camped.scu.lastCal = none ∧
    passed (addTicks 500 960000) camped.tlu.ht = false ∧ passed (addTicks 40000 960000) 1000000 = true :=
  ⟨camped_ready, camped_ready, rfl, rfl, rfl, rfl, by decide, by decide⟩
/-- W 255 and 256 are staged as 256, 2047 as 1024, 2048 and 65,535 as 2048; A 255 as it is, 256 as 255; SUB1 for a tie
preference of 2, miss limit 0 as 1 and 16 as 15. -/
theorem witness_ConfigurationRequestsClampAndSet : camped.ready ∧ (1 : Octet).toNat ≤ 1 ∧ 1 < (2 : Octet).toNat ∧
    ([(255, 0), (0, 1), (255, 7), (0, 8), (255, 255)] : List (Octet × Octet)).map (fun x =>
      look (fun t => t.tgu.stagedW) (exec (.policySet .apt 9 [0, 0, 0, 0, 0, 0, 0, 0, 0, 0, 1, x.1, x.2, 0, 0, 0]) camped)) =
      [some (some 256), some (some 256), some (some 1024), some (some 2048), some (some 2048)] ∧
    ([(0, 0), (255, 0), (0, 1)] : List (Octet × Octet)).map (fun x =>
      look (fun t => t.tgu.stagedA) (exec (.policySet .apt 9 [0, 0, 0, 0, 0, 0, 0, 0, 0, 0, 0, 0, 0, 1, x.1, x.2]) camped)) =
      [some (some 0), some (some 255), some (some 255)] ∧
    ([0, 16] : List Octet).map (fun n => look (fun t => (t.sbt.missLimit, t.tgu.tie.c0))
      (exec (.policySet .apt 9 [1, n, 1, 2, 0, 0, 0, 0, 0, 0, 0, 0, 0, 0, 0, 0]) camped)) =
      [some (1, .sub1), some (15, .sub1)] :=
  ⟨camped_ready, by decide +kernel⟩

end Sys2Proof.Tests
end

section
/-! PROOFS. What the operations of the blocks write: each is made of a few kinds of writes, so that a law about those
writes holds of every operation. -/
namespace Sys2Proof.Machine

/-- `t` comes from `s` by the writes that the operations of the blocks are made of: those to a subscription record, an
anchor, a port unit, a cell watch state, a calendar slot, a call context, the text store and the call settings, the
notices to the sleep unit, and the end of a grant. A law about these writes holds of every operation (`Writes.keeps`,
`Writes.owed`, `Writes.grant_or_owed`). -/
inductive Writes (s : State) : State → Prop where
  | refl : Writes s s
  | modSub {t : State} (i : Sub) (f : SubRecord → SubRecord) : Writes s t → Writes s (t.modSub i f)
  | setAnchor {t : State} (i : Sub) (v : Option HT) (hv : ∀ a, v = some a → position t.now a < 327680) :
      Writes s t → Writes s (t.setAnchor i v)
  | noteEval {t : State} : Writes s t → Writes s (noteEval t)
  | noteWake {t : State} (w : Bool) : Writes s t → Writes s (noteWake w t)
  | modUnit {t : State} (p : Port) (f : PortUnit → PortUnit)
      (hf : ∀ u : PortUnit, u.queue.length ≤ 32 → (f u).queue.length ≤ 32) : Writes s t → Writes s (t.modUnit p f)
  | modWatch {t : State} (i : Sub) (f : Cwu → Cwu) (hf : ∀ w : Cwu, w.cells.length = 16 → (f w).cells.length = 16) :
      Writes s t → Writes s (t.modWatch i f)
  | modSlot {t : State} (n : Nat) (f : CalSlot → CalSlot) : Writes s t → Writes s (t.modSlot n f)
  | setCtx {t : State} (n : Nat) (c : CallCtx) : Writes s t → Writes s (t.setCtx n c)
  | modTxs {t : State} (f : Txs → Txs)
      (hf : (f t.txs).pool.length = t.txs.pool.length ∧ (f t.txs).entries.length = t.txs.entries.length ∧
        (f t.txs).sends.length = t.txs.sends.length) : Writes s t → Writes s (t.modTxs f)
  | callSettings {t : State} (setup release : Nat) (audio : Option StackPort) : Writes s t →
      Writes s { t with cct := { t.cct with setupLimit := setup, releaseLimit := release, audioSel := audio } }
  | dropGrant {t : State} : Writes s t → Writes s (dropGrant t)

namespace Writes

variable {s t u : State}

theorem trans (h : Writes s t) (k : Writes t u) : Writes s u := by
  induction k with
  | refl => exact h
  | modSub i f _ ih => exact .modSub i f ih
  | setAnchor i v hv _ ih => exact .setAnchor i v hv ih
  | noteEval _ ih => exact .noteEval ih
  | noteWake w _ ih => exact .noteWake w ih
  | modUnit p f hf _ ih => exact .modUnit p f hf ih
  | modWatch i f hf _ ih => exact .modWatch i f hf ih
  | modSlot n f _ ih => exact .modSlot n f ih
  | setCtx n c _ ih => exact .setCtx n c ih
  | modTxs f hf _ ih => exact .modTxs f hf ih
  | callSettings a b v _ ih => exact .callSettings a b v ih
  | dropGrant _ ih => exact .dropGrant ih

theorem ite {c : Prop} [Decidable c] (h : Writes s t) (k : Writes s u) : Writes s (if c then t else u) := by
  split
  · exact h
  · exact k

/-- The writes keep what the shared operations keep. -/
theorem keeps (h : Writes s t) : Keeps s t := by
  induction h with
  | refl => exact .refl s
  | modSub i f _ ih => exact keeps_modSub i f ih
  | setAnchor i v hv _ ih => exact keeps_setAnchor i v hv ih
  | noteEval _ ih => exact keeps_noteEval ih
  | noteWake w _ ih => exact keeps_noteWake w ih
  | modUnit p f hf _ ih => exact keeps_modUnit p f hf ih
  | modWatch i f hf _ ih => exact keeps_modWatch i f hf ih
  | modSlot n f _ ih => exact keeps_modSlot n f ih
  | setCtx n c _ ih => exact keeps_setCtx n c ih
  | modTxs f hf _ ih =>
    obtain ⟨hp, he, hs⟩ := hf
    exact ih.trans { Keeps.refl _ with
      sized := fun ⟨h1, h2, h3, h4, h5, h6, h7⟩ => ⟨h1, h2, h3, hp.trans h4, he.trans h5, hs.trans h6, h7⟩
      grantLines := id
      anchorsInRange := id
      owed := id }
  | callSettings a b v _ ih =>
    exact ih.trans { Keeps.refl _ with sized := id, grantLines := id, anchorsInRange := id, owed := id }
  | dropGrant _ ih => exact keeps_dropGrant ih

/-- No write withdraws an evaluation that is owed. -/
theorem owed (h : Writes s t) (hs : s.evalDue = true) : t.evalDue = true := by
  induction h with
  | refl => exact hs
  | noteEval | noteWake => rfl
  | dropGrant _ ih =>
    unfold Machine.dropGrant
    split
    · rfl
    · exact ih
  | modSub _ _ _ ih | setAnchor _ _ _ _ ih | modUnit _ _ _ _ ih | modWatch _ _ _ _ ih | modSlot _ _ _ ih
  | setCtx _ _ _ ih | modTxs _ _ _ ih | callSettings _ _ _ _ ih => exact ih

/-- The grant changes only with a notice to the sleep unit (R86). -/
theorem grant_or_owed (h : Writes s t) : t.evalDue = true ∨ t.tgu.grant = s.tgu.grant := by
  induction h with
  | refl => exact .inr rfl
  | noteEval | noteWake => exact .inl rfl
  | dropGrant _ ih =>
    unfold Machine.dropGrant
    split
    · exact .inl rfl
    · exact ih
  | modSub _ _ _ ih | setAnchor _ _ _ _ ih | modUnit _ _ _ _ ih | modWatch _ _ _ _ ih | modSlot _ _ _ ih
  | setCtx _ _ _ ih | modTxs _ _ _ ih | callSettings _ _ _ _ ih => exact ih

end Writes

variable {s t : State}

/-! ### Events and the calendar -/

theorem writes_post (p : Port) (e : Event) (h : Writes s t) : Writes s (post p e t) :=
  .modUnit p _ (fun u hu => PortUnit.enqueue_length u e hu) h

theorem writes_postBound (i : Sub) (e : Event) (h : Writes s t) : Writes s (postBound i e t) := by
  unfold postBound
  split
  · exact writes_post _ _ h
  · exact h

theorem writes_leave (n : Nat) (h : Writes s t) : Writes s (leave n t) := .noteEval (.modSlot _ _ h)

theorem writes_putWaiting (n : Nat) (o : Occasion) (a : HT) (h : Writes s t) : Writes s (putWaiting n o a t) :=
  .noteWake _ (.modSlot _ _ h)

theorem writes_loseRetimed (n : Nat) (o : Occasion) (a : HT) (h : Writes s t) : Writes s (loseRetimed n o a t) :=
  writes_postBound _ _ (writes_leave _ h)

theorem writes_align (d : Int) (n : Nat) (o : Occasion) (h : Writes s t) : Writes s (align d n o t) := by
  unfold align placeCandidate
  exact .ite (writes_putWaiting _ _ _ h) (.ite (writes_putWaiting _ _ _ h)
    (.ite (writes_loseRetimed _ _ _ h) (.ite (writes_loseRetimed _ _ _ h) (writes_putWaiting _ _ _ h))))

theorem writes_resolve (r : Resolution) (n : Nat) (h : Writes s t) : Writes s (resolve r n t) := by
  unfold resolve rearm
  split
  · have hm := fun i => Writes.ite (c := r.marksLate = true) (.modSlot n _ h : Writes s (markLate n i t)) h
    exact .ite (.noteEval (.modSlot _ _ (hm _))) (writes_align _ _ _ (hm _))
  · exact h

theorem writes_resolvePreempted (g : Grant) (h : Writes s t) : Writes s (resolvePreempted g t) := by
  unfold resolvePreempted
  split
  · exact writes_resolve _ _ (writes_postBound _ _ h)
  · exact h

theorem writes_removeRecord {k : Sub → State → State} (hk : ∀ i x, Writes x (k i x)) (n : Nat) (h : Writes s t) :
    Writes s (removeRecord k n t) := by
  unfold removeRecord
  split
  · exact writes_leave _ (.ite ((Writes.dropGrant h).trans (hk _ _)) h)
  · exact h

theorem writes_removeLinked {k : Sub → State → State} (hk : ∀ i x, Writes x (k i x)) (c : Occasion → Bool)
    (cause : Cause) (l : List Nat) : ∀ {t : State}, Writes s t → Writes s (removeLinked k c cause l t) := by
  induction l with
  | nil => exact fun h => h
  | cons n rest ih =>
    intro t h
    unfold removeLinked
    split
    · split
      · exact ih (writes_postBound _ _ (writes_removeRecord hk _ h))
      · exact ih h
    · exact ih h

theorem writes_retimeSlots (d : Int) (l : List Nat) : ∀ {t : State}, Writes s t → Writes s (retimeSlots d l t) := by
  induction l with
  | nil => exact fun h => h
  | cons n rest ih =>
    intro t h
    unfold retimeSlots
    split
    · exact ih (writes_align _ _ _ h)
    · exact ih h

theorem writes_setAnchorRetimed (i : Sub) (v : HT) (h : Writes s t) : Writes s (setAnchorRetimed i v t) := by
  have ha : Writes s (t.setAnchor i (some (normalise t.now v))) :=
    .setAnchor i _ (fun a e => by cases e; exact position_normalise_lt _ _) h
  unfold setAnchorRetimed retime
  split
  · exact writes_retimeSlots _ _ ha
  · exact ha

theorem writes_makeRecord (o : Occasion) {n : Nat} {u : State} (hm : makeRecord o t = some (n, u)) (h : Writes s t) :
    Writes s u := by
  unfold makeRecord at hm
  split at hm
  · cases hm
    exact .noteWake _ (.modSlot _ _ h)
  · cases hm

/-! ### The text store -/

theorem writes_setEntry (n : Nat) (e : Reasm) (h : Writes s t) : Writes s (setEntry n e t) :=
  .modTxs _ ⟨rfl, by simp, rfl⟩ h

theorem writes_setSend (n : Nat) (r : Option SendRec) (h : Writes s t) : Writes s (t.setSend n r) :=
  .modTxs (fun x => { x with sends := x.sends.set n r }) ⟨rfl, rfl, by simp⟩ h

theorem writes_deliver (m : InMsg) (b : Bool) (l : List Nat) (d : HT) (h : Writes s t) :
    Writes s (deliver m b l d t) := by
  unfold deliver
  exact writes_post _ _ (.modTxs _ ⟨rfl, rfl, rfl⟩ h)

theorem writes_finishEntry (n : Nat) (m : InMsg) (b : Bool) (l : List Nat) (h : Writes s t) :
    Writes s (finishEntry n m b l t) :=
  .ite (writes_setEntry _ _ h) (writes_deliver _ _ _ _ (writes_setEntry _ _ h))

theorem writes_discardEntry (n : Nat) (m : InMsg) (c : Cause) (h : Writes s t) : Writes s (discardEntry n m c t) :=
  writes_post _ _ (writes_setEntry _ _ (.modTxs _ ⟨freeBuffers_length _ _, rfl, rfl⟩ h))

theorem writes_promote (i : Sub) (h : Writes s t) : Writes s (promote i t) := by
  unfold promote
  split
  · split
    · exact writes_postBound _ _ (.modSub _ _ (.modTxs _ ⟨rfl, rfl, rfl⟩ (writes_setSend _ _ h)))
    · exact h
  · exact h

theorem writes_promoteIfWaiting (i : Sub) (h : Writes s t) : Writes s (promoteIfWaiting i t) :=
  .ite (writes_promote _ h) h

theorem writes_activeEmptied (i : Sub) (h : Writes s t) : Writes s (activeEmptied i t) := by
  unfold activeEmptied
  split
  · exact .ite (writes_promote _ h) (.modSub _ _ h)
  · exact h

theorem writes_freeSend (n : Nat) (r : SendRec) (h : Writes s t) : Writes s (freeSend n r t) :=
  .modTxs _ ⟨freeBuffers_length _ _, rfl, rfl⟩ (writes_setSend _ _ h)

theorem writes_clearActive (i : Sub) (h : Writes s t) : Writes s (clearActive i t) :=
  .modTxs _ ⟨rfl, rfl, rfl⟩ h

theorem writes_finishSend {k : Sub → State → State} (hk : ∀ i x, Writes x (k i x)) (n : Nat) (r : SendRec)
    (res : SendResult) (c : Option Cause) (h : Writes s t) : Writes s (finishSend k n r res c t) := by
  have h2 : Writes s (removeForSend k n (if res.frees then clearActive r.sub (freeSend n r t)
      else t.setSend n (some { r with state := .kept, result := some res, finishCause := c }))) :=
    writes_removeLinked hk _ _ _ (.ite (writes_clearActive _ (writes_freeSend _ _ h)) (writes_setSend _ _ h))
  have h4 : ∀ e u, Writes s u → Writes s (if res.frees then activeEmptied r.sub (post .apt e u) else post .apt e u) :=
    fun e u hu => .ite (writes_activeEmptied _ (writes_post _ _ hu)) (writes_post _ _ hu)
  unfold finishSend
  refine h4 _ _ ?_
  cases stopCause res c with
  | some sc => exact writes_postBound _ _ h2
  | none => exact h2

theorem writes_fatalStop {k : Sub → State → State} (hk : ∀ i x, Writes x (k i x)) (i : Sub) (h : Writes s t) :
    Writes s (fatalStop k i t) := by
  unfold fatalStop
  split
  · split
    · exact .ite (writes_finishSend hk _ _ _ _ h) h
    · exact h
  · exact h

/-! ### The call contexts -/

theorem writes_updateAudio (n : Nat) (old : CtxState) (c : CallCtx) (h : Writes s t) :
    Writes s (updateAudio n old c t) := by
  have ha : ∀ (b : Bool) (v : Option StackPort), Writes s
      { (t.setCtx n { c with audio := b }) with cct := { (t.setCtx n { c with audio := b }).cct with audioSel := v } } :=
    fun b v => .callSettings t.cct.setupLimit t.cct.releaseLimit v (.setCtx n _ h)
  unfold updateAudio
  exact .ite (.ite h (ha _ _)) (.ite (ha _ _) h)

theorem writes_examineGrant {k : Sub → State → State} (hk : ∀ i x, Writes x (k i x)) (i : Sub) (h : Writes s t) :
    Writes s (examineGrant k i t) := by
  unfold examineGrant
  split
  · split
    · exact .ite (writes_resolvePreempted _ ((Writes.dropGrant h).trans (hk _ _))) h
    · exact h
  · exact h

theorem writes_changeCtx {k : Sub → State → State} (hk : ∀ i x, Writes x (k i x)) (n : Nat) (ch : CtxChange)
    {ev : State → State} (hev : ∀ x, Writes x (ev x)) (h : Writes s t) : Writes s (changeCtx k n ch ev t) := by
  unfold changeCtx
  split
  · have h1 := fun old c => writes_updateAudio n old c (.setCtx n c h)
    have h2 := fun (b : Bool) i old c => Writes.ite (c := b = true) (writes_examineGrant hk i (h1 old c)) (h1 old c)
    exact .noteWake _ (writes_post _ _ (.trans (.ite (writes_removeLinked hk _ _ _ (h2 _ _ _ _)) (h2 _ _ _ _)) (hev _)))
  · exact h

theorem writes_postCall (kind : EventKind) (u : Bool) (n : Nat) (c : CallCtx) (cause : Option Cause) (d : List Octet)
    (h : Writes s t) : Writes s (postCall kind u n c cause d t) := by
  unfold postCall
  split
  · exact writes_postBound _ _ h
  · exact h

theorem writes_forceRelease {k : Sub → State → State} (hk : ∀ i x, Writes x (k i x)) (i : Sub) (cause : Cause)
    (l : List Nat) : ∀ {t : State}, Writes s t → Writes s (forceRelease k i cause l t) := by
  induction l with
  | nil => exact fun h => h
  | cons n rest ih =>
    intro t h
    unfold forceRelease
    split
    · split
      · exact ih (writes_changeCtx hk _ _ (fun _ => .refl) h)
      · exact ih h
    · exact ih h

/-! ### The cell watch -/

theorem writes_modEntry (i : Sub) (k : Nat) (f : CellEntry → CellEntry) (h : Writes s t) :
    Writes s (modEntry i k f t) := .modWatch _ _ (fun w hw => by simpa using hw) h

theorem writes_servingChange (i : Sub) (k : Nat) (h : Writes s t) : Writes s (servingChange i k t) :=
  .modSub _ _ (.modWatch _ _ (fun w hw => by simpa using hw) h)

theorem writes_idleTrigger (i : Sub) (h : Writes s t) : Writes s (idleTrigger i t) := .modWatch _ _ (fun _ hw => hw) h

theorem writes_clearEval (i : Sub) (h : Writes s t) : Writes s (clearEval i t) := .modWatch _ _ (fun _ hw => hw) h

theorem writes_setTrigger (i : Sub) (x : Trigger) (h : Writes s t) : Writes s (setTrigger i x t) :=
  .modWatch _ _ (fun _ hw => hw) h

theorem writes_campServing (i : Sub) (c : Cell) (h : Writes s t) : Writes s (campServing i c t) := by
  unfold campServing
  split
  · have h1 : ∀ (b : Bool) (k : Nat) (f : CellEntry → CellEntry), Writes s (if b then modEntry i k f t else t) :=
      fun b k f => .ite (writes_modEntry _ _ _ h) h
    refine writes_clearEval _ (writes_idleTrigger _ ?_)
    split
    · exact .ite (.modSub _ _ (h1 _ _ _)) (writes_servingChange _ _ (h1 _ _ _))
    · exact h1 _ _ _
  · exact writes_clearEval _ (writes_idleTrigger _ h)

theorem writes_reportCandidate (i : Sub) (c : Nat) (h : Writes s t) : Writes s (reportCandidate i c t) := by
  unfold reportCandidate
  dsimp only
  split
  · split
    · exact writes_postBound _ _ (writes_setTrigger _ _ h)
    · exact writes_setTrigger _ _ h
  · exact writes_setTrigger _ _ h

theorem writes_triggerFinding (i : Sub) (b : Option Nat) (h : Writes s t) : Writes s (triggerFinding i b t) := by
  unfold triggerFinding
  split
  · exact h
  · exact .ite (writes_reportCandidate _ _ h) (writes_setTrigger _ _ h)
  · exact writes_setTrigger _ _ h
  · refine .ite h ?_
    split <;> exact writes_setTrigger _ _ h
  · exact writes_postBound _ _ (writes_setTrigger _ _ h)
  · exact writes_setTrigger _ _ h

theorem writes_evaluateCells (i : Sub) (h : Writes s t) : Writes s (evaluateCells i t) := by
  unfold evaluateCells
  exact writes_triggerFinding _ _ (.modWatch _ _ (fun _ hw => hw) h)

theorem writes_takeTtt (i : Sub) (h : Writes s t) : Writes s (takeTtt i t) := by
  unfold takeTtt
  split
  · exact writes_reportCandidate _ _ h
  · exact h

theorem writes_takeRepeat (i : Sub) (h : Writes s t) : Writes s (takeRepeat i t) := by
  have hw : ∀ c, Writes s (postBound i (withdrawnEvent t i c) (setTrigger i .idle t)) :=
    fun _ => writes_postBound _ _ (writes_setTrigger _ _ h)
  unfold takeRepeat
  split
  · split
    · split
      · exact writes_reportCandidate _ _ h
      · exact hw _
    · exact hw _
  · exact h

theorem writes_applyConfig (i : Sub) (g : StagedConfig) (h : Writes s t) : Writes s (applyConfig i g t) := by
  have h1 : Writes s (t.modWatch i (fun w => { w with config := w.config.over g })) := .modWatch _ _ (fun _ hw => hw) h
  unfold applyConfig
  dsimp only
  split
  · exact .ite (writes_takeTtt _ (writes_setTrigger _ _ h1)) (writes_setTrigger _ _ h1)
  · exact h1

theorem writes_applyStaged (i : Sub) (h : Writes s t) : Writes s (applyStaged i t) :=
  .modWatch _ _ (fun _ hw => hw) (writes_applyConfig _ _ h)

/-! ### The subscriptions -/

theorem writes_setSubState (i : Sub) (st : SubState) (h : Writes s t) : Writes s (setSubState i st t) :=
  .modSub _ _ h

theorem writes_sendSubState (i : Sub) (c : Cause) (h : Writes s t) : Writes s (sendSubState i c t) :=
  writes_post _ _ h

theorem writes_passOver (l : List Nat) : ∀ {t : State}, Writes s t → Writes s (passOver l t) := by
  induction l with
  | nil => exact fun h => h
  | cons n rest ih => exact fun h => ih (writes_resolve _ _ h)

theorem writes_passOverGrant (i : Sub) (h : Writes s t) : Writes s (passOverGrant i t) := by
  unfold passOverGrant
  split
  · exact .ite (writes_resolve _ _ (.dropGrant h)) h
  · exact h

theorem writes_absentEntry (i : Sub) (h : Writes s t) : Writes s (absentEntry i t) :=
  writes_sendSubState _ _ (writes_fatalStop (fun _ _ => .refl) _ (writes_forceRelease (fun _ _ => .refl) _ _ _
    (writes_clearEval _ (writes_idleTrigger _ (writes_passOver _ (writes_passOverGrant _
      (writes_setSubState _ _ h)))))))

theorem writes_compareMiss (i : Sub) (h : Writes s t) : Writes s (compareMiss i t) := .ite (writes_absentEntry _ h) h

/-- The grant-end notice of R85, as the operations that take it as an argument need it. -/
theorem compareMiss_writes (i : Sub) (x : State) : Writes x (compareMiss i x) := writes_compareMiss i .refl

theorem writes_missNotice (i : Sub) (h : Writes s t) : Writes s (missNotice i t) := writes_compareMiss _ (.modSub _ _ h)

theorem writes_releaseGrant (h : Writes s t) : Writes s (releaseGrant t) := by
  unfold releaseGrant
  split
  · exact writes_compareMiss _ (.dropGrant h)
  · exact h

theorem writes_completeClose (i : Sub) (late : Bool) (h : Writes s t) : Writes s (completeClose i late t) := by
  have h3 := writes_sendSubState i .switchClosed (writes_setSubState i .camped (writes_idleTrigger i (writes_applyStaged i
    (.modWatch i (fun w => { w with switchRec := none, lateClose := late }) (fun _ hw => hw) h))))
  exact .ite (writes_absentEntry _ h3) (writes_promoteIfWaiting _ h3)

theorem writes_closeByPart (i : Sub) (c : Cause) (h : Writes s t) : Writes s (closeByPart i c t) := by
  unfold closeByPart
  split
  · exact writes_completeClose _ _ (writes_postBound _ _ (writes_modEntry _ _ _ h))
  · exact h

theorem writes_removeAll (l : List Nat) : ∀ {t : State}, Writes s t → Writes s (removeAll l t) := by
  induction l with
  | nil => exact fun h => h
  | cons n rest ih => exact fun h => ih (writes_removeRecord (fun _ _ => .refl) _ h)

theorem writes_clearWatch (i : Sub) (h : Writes s t) : Writes s (clearWatch i t) :=
  writes_applyStaged _ (.modSub _ _ (.modWatch _ _ (fun _ _ => by simp) h))

theorem writes_teardown (i : Sub) (h : Writes s t) : Writes s (teardown i t) := by
  have h1 : Writes s (removeRecords i t) := .ite (writes_compareMiss _ (writes_removeAll _ h)) (writes_removeAll _ h)
  exact writes_sendSubState _ _ (writes_setSubState _ _ (.modSub _ _ (writes_fatalStop (fun _ _ => .refl) _
    (writes_forceRelease (fun _ _ => .refl) _ _ _
      (.setAnchor _ _ (fun a ha => by cases ha) (writes_clearWatch _ h1))))))

/-! ### The grant unit and the expiries -/

theorem writes_endGrant (h : Writes s t) : Writes s (endGrant t) := by
  unfold endGrant
  split
  · exact .dropGrant (.modSlot _ _ h)
  · exact h

theorem writes_takeEnd (h : Writes s t) : Writes s (takeEnd t) := by
  unfold takeEnd
  split
  · exact writes_compareMiss _ (writes_endGrant h)
  · exact h

theorem writes_takeGrace (n : Nat) (h : Writes s t) : Writes s (takeGrace n t) := by
  unfold takeGrace
  split
  · refine .noteEval ?_
    split
    · exact writes_closeByPart _ _ (writes_resolve _ _ h)
    · exact writes_missNotice _ (writes_postBound _ _ (writes_resolve _ _ h))
    · exact writes_postBound _ _ (writes_resolve _ _ h)
  · exact h

theorem writes_takeSetup (n : Nat) (h : Writes s t) : Writes s (takeSetup n t) := by
  unfold takeSetup
  split
  · exact writes_changeCtx compareMiss_writes _ _ (fun _ => writes_postCall _ _ _ _ _ _ .refl) h
  · exact h

theorem writes_takeRelease (n : Nat) (h : Writes s t) : Writes s (takeRelease n t) := by
  unfold takeRelease
  split
  · exact writes_changeCtx compareMiss_writes _ _ (fun _ => .refl) h
  · exact h

theorem writes_takeReassembly (n : Nat) (h : Writes s t) : Writes s (takeReassembly n t) := by
  unfold takeReassembly
  split
  · exact .ite (writes_finishEntry _ _ _ _ h) (writes_discardEntry _ _ _ h)
  · exact h

end Sys2Proof.Machine
end

section
/-! PROOFS. Where each request leads: a taken request of a block makes the writes of that block and no others. -/
namespace Sys2Proof.Machine

/-- Where a taken request leads: its new state meets `P`. A refused one has no new state. -/
def Reply.leads (P : State → Prop) : Reply → Prop
  | .taken _ s' _ => P s'
  | .refused _ _ => True

variable {P : State → Prop}

theorem leads_ite {c : Prop} [Decidable c] {a b : Reply} (ha : a.leads P) (hb : b.leads P) :
    (if c then a else b).leads P := by
  split
  · exact ha
  · exact hb

/-- A check that refuses, and then the rest of the rule. -/
theorem leads_unless {c : Prop} [Decidable c] {st : Status} {r : Reply} (h : r.leads P) :
    (if c then refuse st else r).leads P := leads_ite trivial h

theorem leads_withSub {p : Port} {n : Nat} {s : State} {k : Sub → Reply} (h : ∀ i, (k i).leads P) :
    (withSub p n s k).leads P := by
  unfold withSub
  split
  · exact leads_ite (h _) trivial
  · trivial

theorem leads_withLive {p : Port} {n : Nat} {s : State} {k : Nat → Occasion → Reply} (h : ∀ i o, (k i o).leads P) :
    (withLive p n s k).leads P := by
  unfold withLive
  split
  · trivial
  · trivial
  · exact leads_ite trivial trivial
  · exact leads_ite (h _ _) trivial

theorem leads_withSegment {p : Port} {n q : Nat} {o : Opt} {s : State} {k : SendRec → SendSeg → Reply}
    (h : ∀ r g, (k r g).leads P) : (withSegment p n q o s k).leads P := by
  unfold withSegment
  split
  · refine leads_unless (leads_unless (leads_unless ?_))
    split
    · exact h _ _
    · trivial
  · trivial

/-! ### The timeline and the subscriptions -/

theorem runTimeRead_writes (b : Unit) (s : State) : (runTimeRead b s).leads (Writes s) := Writes.refl

theorem runAnchorAdjust_writes (p : Port) (o : Nat × Int) (s : State) : (runAnchorAdjust p o s).leads (Writes s) := by
  refine leads_withSub fun i => leads_unless (leads_unless ?_)
  split
  · exact writes_setAnchorRetimed _ _ .refl
  · trivial

theorem runBind_writes (o : Nat × Nat) (s : State) : (runBind o s).leads (Writes s) := by
  unfold runBind
  split
  · exact leads_unless (.modSub _ _ .refl)
  · trivial

theorem runUnbind_writes (n : Nat) (s : State) : (runUnbind n s).leads (Writes s) := by
  unfold runUnbind
  split
  · exact leads_unless (.modSub _ _ .refl)
  · trivial

theorem runCamp_writes (p : Port) (o : CampOps) (s : State) : (runCamp p o s).leads (Writes s) :=
  leads_withSub fun _ => leads_unless (leads_unless (writes_sendSubState _ _ (writes_promoteIfWaiting _
    (.modWatch _ _ (fun _ hw => hw) (.modSub _ _ (writes_campServing _ _ (writes_setAnchorRetimed _ _
      (writes_setSubState _ _ .refl))))))))

theorem runDetach_writes (p : Port) (n : Nat) (s : State) : (runDetach p n s).leads (Writes s) :=
  leads_withSub fun _ => leads_ite .refl (writes_teardown _ .refl)

theorem runResume_writes (p : Port) (n : Nat) (s : State) : (runResume p n s).leads (Writes s) := by
  unfold runResume
  split
  · exact leads_unless (leads_unless (writes_sendSubState _ _ (writes_promoteIfWaiting _
      (.modWatch _ _ (fun _ hw => hw) (.modSub _ _ (writes_setSubState _ _ .refl))))))
  · trivial

theorem runPartStatus_writes (b : Unit) (s : State) : (runPartStatus b s).leads (Writes s) := Writes.refl

/-! ### The calendar -/

theorem runOccSubmit_writes (p : Port) (o : SubmitOps) (s : State) : (runOccSubmit p o s).leads (Writes s) := by
  refine leads_withSub fun i => ?_
  split
  · refine leads_unless (leads_unless ?_)
    split
    · refine leads_unless (leads_unless (leads_unless (leads_unless (leads_unless (leads_unless ?_)))))
      split
      · rename_i hm
        exact writes_makeRecord _ hm .refl
      · trivial
    · trivial
  · trivial

theorem runOccCancel_writes (p : Port) (h : Nat) (s : State) : (runOccCancel p h s).leads (Writes s) :=
  leads_withLive fun _ _ => leads_unless (writes_removeRecord compareMiss_writes _ .refl)

theorem runOccPeriod_writes (p : Port) (x : Nat × Nat) (s : State) : (runOccPeriod p x s).leads (Writes s) :=
  leads_withLive fun _ _ => leads_unless (leads_unless (leads_unless (.modSlot _ _ .refl)))

theorem runOccList_writes (p : Port) (x : Nat × Nat) (s : State) : (runOccList p x s).leads (Writes s) :=
  leads_withSub fun _ => leads_unless .refl

theorem writes_doneEffect (n : Nat) (o : Occasion) (s : State) : Writes s (doneEffect n o s) := by
  have h1 := Writes.ite (c := o.state = .granted) (writes_releaseGrant .refl) (.refl (s := s))
  exact .noteEval (writes_resolve _ _ (.ite (.modSub _ _ h1) h1))

theorem runOccDone_writes (p : Port) (x : Nat × Nat) (s : State) : (runOccDone p x s).leads (Writes s) := by
  refine leads_unless ?_
  split
  · trivial
  · trivial
  · exact leads_ite trivial trivial
  · exact leads_unless (leads_unless (leads_unless (writes_doneEffect _ _ s)))

/-! ### The cell watch and the handover -/

theorem length_addItem (cells : List CellEntry) (x : CellItem) : (addItem cells x).length = cells.length := by
  unfold addItem
  split
  · rfl
  · split
    · simp
    · rfl

/-- A new neighbour list keeps the table's size (R92). -/
theorem length_rebuild (items : List CellItem) (cells : List CellEntry) :
    (rebuild items cells).length = cells.length := by
  unfold rebuild
  exact List.foldlRecOn (motive := fun l => l.length = cells.length) items addItem (List.length_map _)
    (fun l hl x _ => (length_addItem l x).trans hl)

theorem runCellListSet_writes (p : Port) (o : Nat × List CellItem) (s : State) :
    (runCellListSet p o s).leads (Writes s) := by
  refine leads_withSub fun i => leads_unless (leads_unless (leads_unless ?_))
  have h1 : Writes s (s.modWatch i (fun w => { w with cells := rebuild o.2 w.cells })) :=
    .modWatch _ _ (fun w hw => (length_rebuild _ _).trans hw) .refl
  exact Writes.ite (writes_evaluateCells _ h1) h1

theorem length_tally_apply (k : Nat) (ht : HT) (t : Tally) (x : Sample) :
    (t.apply k ht x).cells.length = t.cells.length := by
  unfold Tally.apply
  dsimp only
  split
  · simp
  · rfl

/-- A measurement report keeps the table's size (R96). -/
theorem length_applySamples (k : Nat) (ht : HT) (l : List Sample) (cells : List CellEntry) :
    (applySamples k ht l cells).cells.length = cells.length := by
  unfold applySamples
  refine List.foldlRecOn (motive := fun t => t.cells.length = cells.length) l (Tally.apply k ht) ?_ ?_
  · rfl
  · exact fun t h x _ => (length_tally_apply k ht t x).trans h

theorem runMeasReport_writes (p : Port) (o : Nat × List Sample) (s : State) :
    (runMeasReport p o s).leads (Writes s) := by
  refine leads_withSub fun i => leads_unless (leads_unless ?_)
  have h1 : Writes s (s.modWatch i (fun w => { w with cells := (applySamples w.config.k s.now o.2 w.cells).cells })) :=
    .modWatch _ _ (fun w hw => (length_applySamples _ _ _ _).trans hw) .refl
  exact Writes.ite (writes_evaluateCells _ h1) h1

theorem runCellTableRead_writes (p : Port) (x : Nat × Nat) (s : State) : (runCellTableRead p x s).leads (Writes s) :=
  leads_withSub fun _ => leads_unless .refl

theorem runCellConfig_writes (p : Port) (o : ConfigOps) (s : State) : (runCellConfig p o s).leads (Writes s) :=
  leads_withSub fun _ => leads_ite
    (Writes.ite (.modWatch _ _ (fun _ hw => hw) .refl) (writes_applyConfig _ _ .refl)) trivial

theorem writes_openSwitch (i : Sub) (n : Nat) (c : Cell) (h : Nat) {s t : State} (ht : Writes s t) :
    Writes s (openSwitch i n c h t) :=
  writes_sendSubState _ _ (writes_setSubState _ _ (writes_idleTrigger _ (.modWatch _ _ (fun _ hw => hw) ht)))

theorem runSwitchBegin_writes (p : Port) (o : BeginOps) (s : State) : (runSwitchBegin p o s).leads (Writes s) := by
  refine leads_withSub fun i => leads_unless (leads_unless ?_)
  split
  · refine leads_unless (leads_unless ?_)
    split
    · refine leads_unless (leads_unless ?_)
      split
      · rename_i hm
        exact writes_openSwitch _ _ _ _ (writes_makeRecord _ hm .refl)
      · trivial
    · trivial
  · trivial

theorem writes_closeOccasion (sw : SwitchRec) {s t : State} (h : Writes s t) : Writes s (closeOccasion sw t) :=
  .noteEval (writes_resolve _ _ (.ite (writes_releaseGrant h) h))

theorem runSwitchEnd_writes (p : Port) (o : EndOps) (s : State) : (runSwitchEnd p o s).leads (Writes s) := by
  refine leads_withSub fun i => leads_unless (leads_ite (leads_ite trivial trivial) ?_)
  split
  · refine leads_ite ?_ ?_
    · split
      · exact writes_completeClose _ _ (writes_closeOccasion _ (writes_setAnchorRetimed _ _
          (writes_servingChange _ _ .refl)))
      · trivial
    · exact writes_completeClose _ _ (writes_closeOccasion _ (writes_modEntry _ _ _ .refl))
  · trivial

theorem runCandidateDecline_writes (p : Port) (n : Nat) (s : State) :
    (runCandidateDecline p n s).leads (Writes s) := by
  refine leads_withSub fun i => ?_
  show Writes s (declineEffect i s)
  unfold declineEffect
  split
  · exact writes_setTrigger _ _ .refl
  · exact .refl

/-! ### The calls -/

theorem writes_dialEffect (n : Nat) (i : Sub) (digits : List Octet) (s : State) :
    Writes s (dialEffect n i digits s) :=
  writes_changeCtx compareMiss_writes _ _ (fun x => writes_postBound i
    (mkEvent x .callRequest true (some i) (some n) none (oct8 digits.length)) .refl) (.setCtx _ _ .refl)

theorem runCallDial_writes (o : Nat × List Octet) (s : State) : (runCallDial o s).leads (Writes s) := by
  unfold runCallDial
  split
  · refine leads_unless (leads_unless (leads_unless ?_))
    split
    · exact writes_dialEffect _ _ _ s
    · trivial
  · trivial

theorem runCallAnswer_writes (n : Nat) (s : State) : (runCallAnswer n s).leads (Writes s) := by
  unfold runCallAnswer
  split
  · split
    · exact leads_unless (leads_unless (writes_postCall _ _ _ _ _ _ .refl))
    · trivial
  · trivial

theorem forward_writes (need : CtxState) (kind : EventKind) (n : Nat) (s : State) :
    (forward need kind n s).leads (Writes s) := by
  unfold forward
  split
  · exact leads_unless (writes_postCall _ _ _ _ _ _ .refl)
  · trivial

theorem runCallHangup_writes (n : Nat) (s : State) : (runCallHangup n s).leads (Writes s) := by
  unfold runCallHangup
  split
  · split
    · trivial
    · exact Writes.refl
    · exact writes_changeCtx compareMiss_writes _ _ (fun _ => writes_postCall _ _ _ _ _ _ .refl) .refl
  · trivial

theorem runCallIncoming_writes (p : Port) (o : Nat × Nat × List Octet) (s : State) :
    (runCallIncoming p o s).leads (Writes s) := by
  refine leads_withSub fun i => leads_unless (leads_unless (leads_unless ?_))
  split
  · exact writes_changeCtx compareMiss_writes _ _ (fun _ => .refl) (.setCtx _ _ .refl)
  · trivial

theorem writes_storeReference (n : Nat) (c : CallCtx) (r : Option Nat) {s t : State} (h : Writes s t) :
    Writes s (storeReference n c r t) := .setCtx _ _ h

theorem applyStage_writes (n : Nat) (c : CallCtx) (r : Option Nat) (ch : CtxChange) (s : State) :
    (applyStage n c r ch s).leads (Writes s) :=
  writes_changeCtx compareMiss_writes _ _ (fun _ => .refl) (writes_storeReference _ _ _ .refl)

theorem stageConnected_writes (n : Nat) (i : Sub) (c : CallCtx) (r : Option Nat) (s : State) :
    (stageConnected n i c r s).leads (Writes s) :=
  leads_unless (leads_ite
    (writes_changeCtx compareMiss_writes _ _ (fun _ => writes_postCall _ _ _ _ _ _ .refl)
      (writes_storeReference _ _ _ .refl))
    (leads_unless (applyStage_writes _ _ _ _ s)))

theorem applyProgress_writes (n : Nat) (i : Sub) (c : CallCtx) (st : Stage) (cause : Nat) (r : Option Nat) (s : State) :
    (applyProgress n i c st cause r s).leads (Writes s) := by
  unfold applyProgress
  split
  · exact applyStage_writes _ _ _ _ s
  · exact applyStage_writes _ _ _ _ s
  · exact stageConnected_writes _ _ _ _ s
  · exact stageConnected_writes _ _ _ _ s
  · exact applyStage_writes _ _ _ _ s
  · exact leads_unless (applyStage_writes _ _ _ _ s)
  · exact applyStage_writes _ _ _ _ s
  · trivial

theorem runCallProgress_writes (p : Port) (o : ProgressOps) (s : State) :
    (runCallProgress p o s).leads (Writes s) := by
  unfold runCallProgress
  split
  · refine leads_unless (leads_unless ?_)
    split
    · exact leads_unless (leads_unless (applyProgress_writes _ _ _ _ _ _ s))
    · trivial
  · trivial

theorem runCallList_writes (p : Port) (b : Unit) (s : State) : (runCallList p b s).leads (Writes s) := Writes.refl

theorem runCallConfig_writes (o : Opt × Opt) (s : State) : (runCallConfig o s).leads (Writes s) :=
  leads_ite (.callSettings _ _ s.cct.audioSel .refl) trivial

/-! ### The text store -/

theorem writes_takeBuffer (n : Nat) (d : List Octet) {s t : State} (h : Writes s t) : Writes s (takeBuffer n d t) :=
  .modTxs _ ⟨by simp, rfl, rfl⟩ h

theorem waitWhole_writes (i : Sub) (o : SegmentOps) (e : Nat) (ev : Option Nat) {s t : State} (h : Writes s t) :
    (waitWhole i o e ev t).leads (Writes s) := by
  unfold waitWhole
  split
  · exact writes_setEntry _ _ (writes_takeBuffer _ _ h)
  · trivial

theorem segmentWhole_writes (i : Sub) (o : SegmentOps) (s : State) : (segmentWhole i o s).leads (Writes s) := by
  unfold segmentWhole
  split
  · trivial
  · refine leads_ite (writes_deliver _ _ _ _ (writes_takeBuffer _ _ .refl)) ?_
    split
    · exact waitWhole_writes _ _ _ _ .refl
    · split
      · exact waitWhole_writes _ _ _ _ (writes_discardEntry _ _ _ .refl)
      · trivial

theorem segmentMatched_writes (e : Nat) (m : InMsg) (o : SegmentOps) (s : State) :
    (segmentMatched e m o s).leads (Writes s) := by
  refine leads_ite trivial (leads_ite .refl ?_)
  split
  · exact leads_ite (writes_finishEntry _ _ _ _ (writes_takeBuffer _ _ .refl))
      (writes_setEntry _ _ (writes_takeBuffer _ _ .refl))
  · trivial

theorem beginEntry_writes (i : Sub) (o : SegmentOps) (e : Nat) (ev : Option Nat) {s t : State} (h : Writes s t) :
    (beginEntry i o e ev t).leads (Writes s) := by
  unfold beginEntry
  split
  · exact writes_setEntry _ _ (writes_takeBuffer _ _ h)
  · trivial

theorem segmentNew_writes (i : Sub) (o : SegmentOps) (s : State) : (segmentNew i o s).leads (Writes s) := by
  unfold segmentNew
  split
  · trivial
  · split
    · exact beginEntry_writes _ _ _ _ .refl
    · split
      · exact beginEntry_writes _ _ _ _ (writes_discardEntry _ _ _ .refl)
      · trivial

theorem segmentPart_writes (i : Sub) (o : SegmentOps) (s : State) : (segmentPart i o s).leads (Writes s) := by
  unfold segmentPart
  split
  · split
    · exact segmentMatched_writes _ _ _ s
    · exact segmentNew_writes _ _ s
  · exact segmentNew_writes _ _ s

theorem runTextSegmentIn_writes (p : Port) (o : SegmentOps) (s : State) :
    (runTextSegmentIn p o s).leads (Writes s) :=
  leads_withSub fun _ => leads_unless (leads_unless (leads_unless (leads_unless
    (leads_ite (segmentWhole_writes _ _ s) (segmentPart_writes _ _ s)))))

theorem runTextList_writes (b : Unit) (s : State) : (runTextList b s).leads (Writes s) := Writes.refl

theorem runTextRead_writes (o : Nat × Nat) (s : State) : (runTextRead o s).leads (Writes s) := by
  unfold runTextRead
  split
  · split
    · exact Writes.refl
    · trivial
  · trivial

theorem writes_releaseEffect (x : InboxMsg) (s : State) : Writes s (releaseEffect x s) := by
  have h1 : Writes s (dropMessage x s) := .modTxs _ ⟨freeBuffers_length _ _, rfl, rfl⟩ .refl
  unfold releaseEffect
  dsimp only
  split
  · exact writes_deliver _ _ _ _ (writes_setEntry _ _ h1)
  · exact h1

theorem runTextRelease_writes (n : Nat) (s : State) : (runTextRelease n s).leads (Writes s) := by
  unfold runTextRelease
  split
  · exact writes_releaseEffect _ s
  · trivial

theorem runTextConfig_writes (o : Opt × Opt) (s : State) : (runTextConfig o s).leads (Writes s) :=
  leads_ite (.modTxs _ ⟨rfl, rfl, rfl⟩ .refl) trivial

/-- Buffers are taken out of the pool without changing its size (R147). -/
theorem length_takeBuffers : ∀ (l : List (List Octet)) (pool : List (Option (List Octet))) (bs : List Nat)
    (pool' : List (Option (List Octet))), takeBuffers l pool = some (bs, pool') → pool'.length = pool.length
  | [], pool, bs, pool', h => by
    cases h
    rfl
  | d :: rest, pool, bs, pool', h => by
    unfold takeBuffers at h
    split at h
    · split at h
      · rename_i htake
        cases h
        simpa using length_takeBuffers rest _ _ _ htake
      · cases h
    · cases h

theorem runTextCompose_writes (o : ComposeOps) (s : State) : (runTextCompose o s).leads (Writes s) := by
  unfold runTextCompose
  split
  · refine leads_unless (leads_unless (leads_unless ?_))
    split
    · rename_i htake
      exact .modTxs _ ⟨length_takeBuffers _ _ _ _ htake, rfl, rfl⟩ (writes_setSend _ _ .refl)
    · trivial
    · trivial
  · trivial

theorem runTextFill_writes (o : Nat × Nat × List Octet) (s : State) : (runTextFill o s).leads (Writes s) := by
  refine leads_unless ?_
  split
  · refine leads_unless ?_
    split
    · exact .modTxs _ ⟨by simp, rfl, rfl⟩ (writes_setSend _ _ .refl)
    · trivial
  · trivial

theorem writes_bumpCommits {s t : State} (h : Writes s t) : Writes s (bumpCommits t) := .modTxs _ ⟨rfl, rfl, rfl⟩ h

theorem runTextCommit_writes (n : Nat) (s : State) : (runTextCommit n s).leads (Writes s) := by
  refine leads_unless ?_
  split
  · refine leads_unless ?_
    split
    · trivial
    · exact leads_unless (leads_unless (leads_ite
        (.modTxs _ ⟨rfl, rfl, rfl⟩ (writes_bumpCommits (writes_setSend _ _ .refl)))
        (writes_postBound _ _ (.modTxs _ ⟨rfl, rfl, rfl⟩ (writes_bumpCommits (writes_setSend _ _ .refl))))))
  · trivial

theorem runTextAbandon_writes (n : Nat) (s : State) : (runTextAbandon n s).leads (Writes s) := by
  refine leads_unless ?_
  split
  · split
    · exact writes_freeSend _ _ .refl
    · exact .modSub _ _ (.modTxs _ ⟨rfl, rfl, rfl⟩ (writes_freeSend _ _ .refl))
    · exact writes_finishSend compareMiss_writes _ _ _ _ .refl
    · trivial
  · trivial

theorem runTextSendStatus_writes (n : Nat) (s : State) : (runTextSendStatus n s).leads (Writes s) := by
  refine leads_unless ?_
  split <;> exact Writes.refl

theorem runTextSendClose_writes (n : Nat) (s : State) : (runTextSendClose n s).leads (Writes s) := by
  refine leads_unless ?_
  split
  · exact leads_unless (writes_activeEmptied _ (writes_clearActive _ (writes_freeSend _ _ .refl)))
  · trivial

theorem runTextTake_writes (p : Port) (o : Nat × Nat × Opt) (s : State) : (runTextTake p o s).leads (Writes s) :=
  leads_unless (leads_withSegment fun _ _ => leads_ite (writes_setSend _ _ .refl) trivial)

theorem runTextSegmentResult_writes (p : Port) (o : ResultOps) (s : State) :
    (runTextSegmentResult p o s).leads (Writes s) :=
  leads_unless (leads_withSegment fun _ _ => leads_ite
    (leads_ite (writes_setSend _ _ .refl) (writes_finishSend compareMiss_writes _ _ _ _ .refl)) trivial)

/-! ### The ports -/

theorem runFetchEvents_writes (p : Port) (n : Nat) (s : State) : (runFetchEvents p n s).leads (Writes s) :=
  leads_unless (.modUnit _ _ (fun u hu => by simp [PortUnit.fetched]; omega) .refl)

theorem runEventConfig_writes (p : Port) (o : EventOps) (s : State) : (runEventConfig p o s).leads (Writes s) :=
  leads_ite (.modUnit _ _ (fun _ hu => hu) .refl) trivial

theorem runClearRefusal_writes (p : Port) (b : Unit) (s : State) : (runClearRefusal p b s).leads (Writes s) :=
  Writes.modUnit _ _ (fun _ hu => hu) .refl

theorem latchRefusal_writes (p : Port) (kind tag : Octet) (st : Status) (s : State) :
    Writes s (latchRefusal p kind tag st s) := by
  unfold latchRefusal
  split
  · exact .refl
  · have h1 := Writes.modUnit (s := s) p (fun u => { u with latch := some ⟨kind, tag, st.code, s.now⟩ }) (fun _ hu => hu) .refl
    exact .ite h1 (writes_post _ _ h1)

end Sys2Proof.Machine
end

section
/-! PROOFS. What a command can do: an invariant of the parts of an event is an invariant of every command. -/
namespace Sys2Proof.Machine

/-! ### The parts of an occasion start (R65 to R73) -/

section
variable {s : State}

theorem writes_loseStarter (c : Cause) (n : Nat) {t : State} (h : Writes s t) : Writes s (loseStarter c n t) := by
  unfold loseStarter
  split
  · exact writes_postBound _ _ (writes_resolve _ _ h)
  · exact h

theorem writes_lose (r : StartRun) (c : Cause) (n : Nat) (h : Writes s r.state) : Writes s (r.lose c n).state := by
  unfold StartRun.lose
  split
  · exact writes_loseStarter _ _ h
  · exact h

theorem writes_holdStep (l : List Nat) : ∀ (r : StartRun), Writes s r.state → Writes s (holdStep l r).1.state := by
  induction l with
  | nil => exact fun _ h => h
  | cons n rest ih =>
    intro r h
    unfold holdStep
    split
    · split
      · exact ih _ (writes_resolve _ _ h)
      · split
        · exact ih _ h
        · exact ih _ (writes_lose _ _ _ h)
      · exact ih _ h
    · exact ih _ h

theorem writes_policyStep (l : List Nat) : ∀ (r : StartRun), Writes s r.state → Writes s (policyStep l r).state := by
  induction l with
  | nil => exact fun _ h => h
  | cons n rest ih =>
    intro r h
    unfold policyStep
    split
    · split
      · split
        · split
          · exact ih _ h
          · exact ih _ (writes_lose _ _ _ h)
        · exact ih _ (writes_lose _ _ _ h)
      · exact ih _ h
    · exact ih _ h

theorem writes_loseAll (c : Cause) (l : List Nat) :
    ∀ (r : StartRun), Writes s r.state → Writes s (loseAll c l r).state := by
  induction l with
  | nil => exact fun _ h => h
  | cons n rest ih => exact fun r h => ih _ (writes_lose _ _ _ h)

theorem writes_readyStep (r : StartRun) (h : Writes s r.state) : Writes s (readyStep r).state := by
  unfold readyStep
  split
  · split
    · exact h
    · exact writes_post _ _ (writes_loseAll _ _ _ h)
  · exact h

theorem writes_giveNotices (l : List Sub) : ∀ {t : State}, Writes s t → Writes s (giveNotices l t) := by
  induction l with
  | nil => exact fun h => h
  | cons i rest ih => exact fun h => ih (writes_compareMiss _ h)

theorem writes_closeLost (l : List (Sub × Cause)) : ∀ {t : State}, Writes s t → Writes s (closeLost l t) := by
  induction l with
  | nil => exact fun h => h
  | cons x rest ih => exact fun h => ih (writes_closeByPart _ _ h)

theorem writes_clearLates (l : List Nat) : ∀ {t : State}, Writes s t → Writes s (clearLates l t) := by
  induction l with
  | nil => exact fun h => h
  | cons n rest ih => exact fun h => ih (.modSlot _ _ h)

end

/-- The last two steps of a start write, and then grant the winner or nobody (R69, R70). -/
theorem contendStep_parts (r : StartRun) : ∃ v, Writes r.state v ∧
    ((contendStep r).1.state = v ∨ ∃ x, (contendStep r).1.state = grantStarter x v) := by
  unfold contendStep
  split
  · rename_i x _
    have hl := writes_loseAll .busy
      ((r.remaining.filter (fun y => decide (y.slot ≠ x.slot))).map (fun y => y.slot)) r .refl
    unfold compareStep
    split
    · exact ⟨_, hl, .inr ⟨x, rfl⟩⟩
    · split
      · exact ⟨_, writes_resolvePreempted _ (.dropGrant hl), .inr ⟨x, rfl⟩⟩
      · exact ⟨_, writes_lose _ _ _ hl, .inl rfl⟩
  · exact ⟨_, .refl, .inl rfl⟩

/-- All that an occasion start does (R65): writes, the opening of a window that is due, writes with the notice to the sleep
unit, the grant of the winner if there is one, and writes. -/
theorem takeStart_parts (s : State) : ∃ t u v w, Writes s t ∧ (u = t ∨ u = openWindow t) ∧ Writes u v ∧
    v.evalDue = true ∧ (w = v ∨ ∃ x, w = grantStarter x v) ∧ Writes w (takeStart s) := by
  let slots := starterSlots s
  let t := if endDue s then endGrant s else s
  let u := if windowDue t then openWindow t else t
  let h := holdStep slots { state := noteEval (clearLates slots u), lostSwitches := [], remaining := [] }
  let p := readyStep (policyStep h.2 h.1)
  have ht : Writes s t := .ite (writes_endGrant .refl) .refl
  have hu : u = t ∨ u = openWindow t := by
    by_cases hw : windowDue t = true
    · exact .inr (if_pos hw)
    · exact .inl (if_neg hw)
  have hn : Writes u (noteEval (clearLates slots u)) := .noteEval (writes_clearLates _ .refl)
  have hp : Writes (noteEval (clearLates slots u)) p.state :=
    writes_readyStep _ (writes_policyStep _ _ (writes_holdStep _ _ .refl))
  obtain ⟨v, hv, hw⟩ := contendStep_parts p
  exact ⟨t, u, v, (contendStep p).1.state, ht, hu, (hn.trans hp).trans hv, (hp.trans hv).owed rfl, hw,
    writes_closeLost _ (writes_giveNotices _ .refl)⟩

/-! ### What every event keeps -/

/-- `Q` holds after every part of an event when it holds before: after the writes of the blocks, after each expiry with an
effect of its own, and after the requests that set what no other may. Each is followed by the evaluation the event owes. -/
structure EventInvariant (Q : State → Prop) : Prop where
  answer : ∀ {s} p tag st out, Q s → Q (answered p tag st out s)
  latch : ∀ {s} p kind tag st, Q s → Q (latchRefusal p kind tag st s)
  abort : ∀ {s} p, Q s → Q (noResponse p s)
  drive : ∀ {s}, Q s → Q (driveAttention s)
  writes : ∀ {s t}, Writes s t → Q s → Q (runEval t)
  start : ∀ {s}, Q s → Q (runEval (takeStart s))
  window : ∀ {s}, Q s → Q (runEval (openWindow s))
  recal : ∀ {s}, Q s → Q (runEval (takeRecal s))
  doze : ∀ {s}, dozeDue s = true → Q s → Q (runEval (takeDoze s))
  calibration : ∀ {s}, Q s → Q (runEval (takeCalibration s))
  wake : ∀ {s}, wakeDue s = true → Q s → Q (runEval (startWaking s))
  refReady : ∀ {s}, refReadyDue s = true → Q s → Q (runEval (takeRefReady s))
  policy : ∀ {s} o, Q s → Q (runEval (policyEffect o s))
  vote : ∀ {s t} p v, Writes s t → Q s → Q (runEval (setVote p v t))
  sleepConfig : ∀ {s} o, Q s → Q (runEval (noteEval (sleepSettings o s)))
  calibrate : ∀ {s}, Q s → Q (runEval (calibrateEffect s))
  partReset : ∀ {s}, Q s → Q (runEval (partReset s))

/-- `Q` holds after every event, the pins and the clock among them. -/
structure StepInvariant (Q : State → Prop) : Prop extends EventInvariant Q where
  queue : ∀ {s} l, Q s → Q { s with pending := l }
  powerOn : ∀ l n, Q (State.powerOn l n)
  pin : ∀ {s}, Q s → Q { s with
    inReset := true
    ports := ⟨{ s.ports.spt0 with response := none }, { s.ports.spt1 with response := none },
      { s.ports.apt with response := none }⟩
    pins := { s.pins with trxSel := none, refEn := true }
    cct := { s.cct with audioSel := none } }
  fastTick : ∀ {s}, Q s → Q (runEval (fastTick s))
  slowStep : ∀ {s}, s.scu.sleep.notReady = true → Q s → Q (runEval (slowStep s))
  count : ∀ {s} f, Q s → Q (runEval (countCalibration f s))

section
variable {Q : State → Prop} {s t : State} {due : State → Bool} {take : State → State}

theorem fire_kept (h : due s = true → Q (runEval (take s))) (hq : Q s) : Q (fire due take s) := by
  unfold fire
  split
  · exact h ‹_›
  · exact hq

theorem occur_kept (I : EventInvariant Q) (h : due s = true → Q (runEval (take s))) (hq : Q s)
    (ht : occur due take s = .next t) : Q t := by
  rcases occur_cases ht with rfl | ⟨_, hd, rfl⟩
  · exact hq
  · exact I.drive (h hd)

theorem fire_writes_kept (I : EventInvariant Q) (h : ∀ u, Writes u (take u)) (hq : Q s) : Q (fire due take s) :=
  fire_kept (fun _ => I.writes (h s) hq) hq

theorem occur_writes_kept (I : EventInvariant Q) (h : Writes s (take s)) (hq : Q s)
    (ht : occur due take s = .next t) : Q t :=
  occur_kept I (fun _ => I.writes h hq) hq ht

theorem foldl_kept {α : Type} {f : State → α → State} (h : ∀ x u, Q u → Q (f u x)) (l : List α) (hq : Q s) :
    Q (l.foldl f s) :=
  List.foldlRecOn (motive := Q) l f hq (fun u hu x _ => h x u hu)

/-- Taking every expiry that is due keeps what every event keeps (R4, log 2). -/
theorem settleExpiries_kept (I : EventInvariant Q) (hq : Q s) : Q (settleExpiries s) := by
  have h1 : Q (fire windowDue openWindow s) := fire_kept (fun _ => I.window hq) hq
  have h2 := fire_writes_kept (due := endDue) I (fun u => writes_takeEnd (.refl (s := u))) h1
  have h3 := foldl_kept (f := fun x i => fire (graceDue i) (takeGrace i) x)
    (fun i _ h => fire_writes_kept I (fun _ => writes_takeGrace i .refl) h) (List.range 48) h2
  have h4 : Q (fire startDue takeStart _) := fire_kept (fun _ => I.start h3) h3
  have h5 := foldl_kept (f := fun x i => fire (repeatDue i) (takeRepeat i) (fire (tttDue i) (takeTtt i) x))
    (fun i _ h => fire_writes_kept I (fun _ => writes_takeRepeat i .refl)
      (fire_writes_kept I (fun _ => writes_takeTtt i .refl) h)) allSubs h4
  have h6 := foldl_kept (f := fun x i => (List.range 16).foldl (fun y k => fire (barDue i k) (takeBar i k) y) x)
    (fun i _ h => foldl_kept
      (fun k _ h => fire_writes_kept I (fun _ => writes_modEntry i k _ .refl) h) (List.range 16) h) allSubs h5
  have h7 := foldl_kept (f := fun x i => fire (timerDue .releasing i) (takeRelease i)
      (fire (timerDue .dialing i) (takeSetup i) x))
    (fun i _ h => fire_writes_kept I (fun _ => writes_takeRelease i .refl)
      (fire_writes_kept I (fun _ => writes_takeSetup i .refl) h)) (List.range 4) h6
  have h8 := foldl_kept (f := fun x i => fire (reassemblyDue i) (takeReassembly i) x)
    (fun i _ h => fire_writes_kept I (fun _ => writes_takeReassembly i .refl) h) (List.range 8) h7
  have h9 : Q (fire recalDue takeRecal _) := fire_kept (fun _ => I.recal h8) h8
  have h10 : Q (fire dozeDue takeDoze _) := fire_kept (fun hd => I.doze hd h9) h9
  exact fire_kept (fun _ => I.calibration h10) h10

theorem settle_kept (I : EventInvariant Q) (hq : Q s) : Q (settle s) :=
  have h := settleExpiries_kept I hq
  fire_kept (fun hd => I.wake hd h) h

/-! ### Requests -/

section
variable {β : Type} {kind : Octet} {a : Permitted} {p : Port} {tag : Octet} {body : List Octet}
  {parse : List Octet → Option β} {run : β → State → Reply}

theorem leads_mono {P R : State → Prop} {r : Reply} (h : ∀ u, P u → R u) (hr : r.leads P) : r.leads R := by
  cases r with
  | taken st u out => exact h u hr
  | refused st out => trivial

/-- A request keeps what its kind's own rule keeps, with the evaluation it owes. -/
theorem serve_kept (I : EventInvariant Q) (hrun : ∀ b, (run b s).leads (fun u => Q (runEval u))) (hq : Q s)
    (h : serve kind a p tag body parse run s = .next t) : Q t := by
  rcases serve_cases h with ⟨_, rfl⟩ | ⟨_, st, out, rfl⟩ | ⟨_, b, st, u, out, _, hu, rfl⟩
  · exact I.drive (I.abort p hq)
  · exact I.answer _ _ _ _ (I.latch _ _ _ _ hq)
  · have hb := hrun b
    rw [hu] at hb
    exact I.answer _ _ _ _ hb

theorem serve_writes_kept (I : EventInvariant Q) (hrun : ∀ b, (run b s).leads (Writes s)) (hq : Q s)
    (h : serve kind a p tag body parse run s = .next t) : Q t :=
  serve_kept I (fun b => leads_mono (fun _ hu => I.writes hu hq) (hrun b)) hq h

end

theorem runPolicySet_kept (I : EventInvariant Q) (hq : Q s) (o : PolicyOps) :
    (runPolicySet o s).leads (fun u => Q (runEval u)) :=
  leads_ite (I.policy o hq) trivial

/-- SLEEP_VOTE makes its evaluation for its response (R181); at the end of the event none is owed. -/
theorem runSleepVote_kept (I : EventInvariant Q) (hq : Q s) (p : Port) (n : Nat) :
    (runSleepVote p n s).leads (fun u => Q (runEval u)) := by
  show Q (runEval (voteEffect p n s))
  unfold voteEffect
  split
  · split
    · exact I.writes .refl hq
    · exact I.writes .refl (I.vote p _ .refl hq)
  · exact I.writes .refl hq

theorem runSleepConfig_kept (I : EventInvariant Q) (hq : Q s) (o : SleepOps) :
    (runSleepConfig o s).leads (fun u => Q (runEval u)) := by
  refine leads_ite ?_ trivial
  show Q (runEval (sleepConfigEffect o s))
  unfold sleepConfigEffect
  split
  · exact I.writes .refl (I.sleepConfig o hq)
  · exact I.writes .refl hq

theorem runCalibrate_kept (I : EventInvariant Q) (hq : Q s) (b : Unit) :
    (runCalibrate b s).leads (fun u => Q (runEval u)) :=
  leads_ite (I.calibrate hq) trivial

theorem runPortReset_kept (I : EventInvariant Q) (hq : Q s) (p : Port) (b : Unit) :
    (runPortReset p b s).leads (fun u => Q (runEval u)) :=
  I.vote p .stayAwake (.modUnit _ _ (fun _ _ => Nat.zero_le _) .refl) hq

theorem execUnsupportedRequest_kept (I : EventInvariant Q) (hq : Q s) {p : Port} {kind tag : Octet} {body : List Octet}
    (h : execUnsupportedRequest p kind tag body s = .next t) : Q t := by
  unfold execUnsupportedRequest at h
  split at h
  · cases h
    exact hq
  · split at h
    · cases h
      exact I.drive (I.abort p hq)
    · cases h
      exact I.answer _ _ _ _ (I.latch _ _ _ _ hq)

/-! ### Commands -/

/-- The commands that are neither a clock event nor an edge of the reset pin. -/
def ordinaryCommand : Instr → Bool
  | .htTick | .slowCycle _ | .anchorAdvance _ | .powerOnReset | .resetPinAsserted => false
  | _ => true

/-- Every command but the clock events and the edges of the reset pin keeps what every event keeps. -/
theorem exec_kept (I : EventInvariant Q) {c : Instr} (hc : ordinaryCommand c = true) (hq : Q s) (h : exec c s = .next t) :
    Q t := by
  cases c with
  | powerOnReset | htTick | slowCycle | anchorAdvance | resetPinAsserted => cases hc
  | transactionAborted p =>
    cases h
    exact I.drive (I.abort p hq)
  | refReady => exact occur_kept I (fun hd => I.refReady hd hq) hq h
  | occasionStart => exact occur_kept I (fun _ => I.start hq) hq h
  | occasionEnd => exact occur_writes_kept I (writes_takeEnd .refl) hq h
  | graceExpiry n => exact occur_writes_kept I (writes_takeGrace n .refl) hq h
  | windowOpening => exact occur_kept I (fun _ => I.window hq) hq h
  | tttExpiry i => exact occur_writes_kept I (writes_takeTtt i .refl) hq h
  | repeatExpiry i => exact occur_writes_kept I (writes_takeRepeat i .refl) hq h
  | barExpiry i k => exact occur_writes_kept I (writes_modEntry i k _ .refl) hq h
  | setupExpiry n => exact occur_writes_kept I (writes_takeSetup n .refl) hq h
  | releaseExpiry n => exact occur_writes_kept I (writes_takeRelease n .refl) hq h
  | reassemblyTimeout n => exact occur_writes_kept I (writes_takeReassembly n .refl) hq h
  | recalibrationExpiry => exact occur_kept I (fun _ => I.recal hq) hq h
  | calibrationComplete f => exact occur_kept I (fun _ => I.calibration hq) hq h
  | wakeTimerExpiry => exact occur_kept I (fun _ => I.writes .refl (settle_kept I hq)) hq h
  | dozePowerUpExpiry => exact occur_kept I (fun hd => I.doze hd hq) hq h
  | timeRead p tag body => exact serve_writes_kept I (fun b => runTimeRead_writes b s) hq h
  | anchorAdjust p tag body => exact serve_writes_kept I (fun o => runAnchorAdjust_writes p o s) hq h
  | bind p tag body => exact serve_writes_kept I (fun o => runBind_writes o s) hq h
  | unbind p tag body => exact serve_writes_kept I (fun o => runUnbind_writes o s) hq h
  | camp p tag body => exact serve_writes_kept I (fun o => runCamp_writes p o s) hq h
  | detach p tag body => exact serve_writes_kept I (fun o => runDetach_writes p o s) hq h
  | resume p tag body => exact serve_writes_kept I (fun o => runResume_writes p o s) hq h
  | partStatus p tag body => exact serve_writes_kept I (fun o => runPartStatus_writes o s) hq h
  | policySet p tag body => exact serve_kept I (runPolicySet_kept I hq) hq h
  | occSubmit p tag body => exact serve_writes_kept I (fun o => runOccSubmit_writes p o s) hq h
  | occCancel p tag body => exact serve_writes_kept I (fun o => runOccCancel_writes p o s) hq h
  | occPeriod p tag body => exact serve_writes_kept I (fun o => runOccPeriod_writes p o s) hq h
  | occList p tag body => exact serve_writes_kept I (fun o => runOccList_writes p o s) hq h
  | occDone p tag body => exact serve_writes_kept I (fun o => runOccDone_writes p o s) hq h
  | cellListSet p tag body => exact serve_writes_kept I (fun o => runCellListSet_writes p o s) hq h
  | measReport p tag body => exact serve_writes_kept I (fun o => runMeasReport_writes p o s) hq h
  | cellTableRead p tag body => exact serve_writes_kept I (fun o => runCellTableRead_writes p o s) hq h
  | cellConfig p tag body => exact serve_writes_kept I (fun o => runCellConfig_writes p o s) hq h
  | switchBegin p tag body => exact serve_writes_kept I (fun o => runSwitchBegin_writes p o s) hq h
  | switchEnd p tag body => exact serve_writes_kept I (fun o => runSwitchEnd_writes p o s) hq h
  | candidateDecline p tag body => exact serve_writes_kept I (fun o => runCandidateDecline_writes p o s) hq h
  | callDial p tag body => exact serve_writes_kept I (fun o => runCallDial_writes o s) hq h
  | callAnswer p tag body => exact serve_writes_kept I (fun o => runCallAnswer_writes o s) hq h
  | callHold p tag body => exact serve_writes_kept I (fun o => forward_writes _ _ o s) hq h
  | callResume p tag body => exact serve_writes_kept I (fun o => forward_writes _ _ o s) hq h
  | callHangup p tag body => exact serve_writes_kept I (fun o => runCallHangup_writes o s) hq h
  | callIncoming p tag body => exact serve_writes_kept I (fun o => runCallIncoming_writes p o s) hq h
  | callProgress p tag body => exact serve_writes_kept I (fun o => runCallProgress_writes p o s) hq h
  | callList p tag body => exact serve_writes_kept I (fun o => runCallList_writes p o s) hq h
  | callConfig p tag body => exact serve_writes_kept I (fun o => runCallConfig_writes o s) hq h
  | textSegmentIn p tag body => exact serve_writes_kept I (fun o => runTextSegmentIn_writes p o s) hq h
  | textList p tag body => exact serve_writes_kept I (fun o => runTextList_writes o s) hq h
  | textRead p tag body => exact serve_writes_kept I (fun o => runTextRead_writes o s) hq h
  | textRelease p tag body => exact serve_writes_kept I (fun o => runTextRelease_writes o s) hq h
  | textConfig p tag body => exact serve_writes_kept I (fun o => runTextConfig_writes o s) hq h
  | textCompose p tag body => exact serve_writes_kept I (fun o => runTextCompose_writes o s) hq h
  | textFill p tag body => exact serve_writes_kept I (fun o => runTextFill_writes o s) hq h
  | textCommit p tag body => exact serve_writes_kept I (fun o => runTextCommit_writes o s) hq h
  | textAbandon p tag body => exact serve_writes_kept I (fun o => runTextAbandon_writes o s) hq h
  | textSendStatus p tag body => exact serve_writes_kept I (fun o => runTextSendStatus_writes o s) hq h
  | textSendClose p tag body => exact serve_writes_kept I (fun o => runTextSendClose_writes o s) hq h
  | textTake p tag body => exact serve_writes_kept I (fun o => runTextTake_writes p o s) hq h
  | textSegmentResult p tag body => exact serve_writes_kept I (fun o => runTextSegmentResult_writes p o s) hq h
  | sleepVote p tag body => exact serve_kept I (runSleepVote_kept I hq p) hq h
  | sleepConfig p tag body => exact serve_kept I (runSleepConfig_kept I hq) hq h
  | calibrate p tag body => exact serve_kept I (runCalibrate_kept I hq) hq h
  | fetchEvents p tag body => exact serve_writes_kept I (fun o => runFetchEvents_writes p o s) hq h
  | eventConfig p tag body => exact serve_writes_kept I (fun o => runEventConfig_writes p o s) hq h
  | clearRefusal p tag body => exact serve_writes_kept I (fun o => runClearRefusal_writes p o s) hq h
  | portReset p tag body => exact serve_kept I (runPortReset_kept I hq p) hq h
  | partReset p tag body => exact serve_kept I (run := runPartReset) (fun _ => I.partReset hq) hq h
  | unsupportedRequest p kind tag body => exact execUnsupportedRequest_kept I hq (body := body) h

/-! ### Clock events -/

/-- What a tick does with all that is due taken (R1). -/
theorem tick_kept (I : StepInvariant Q) (hq : Q s) : Q (runEval (tick s)) := by
  have hs := settle_kept I.toEventInvariant hq
  unfold tick
  dsimp only
  split
  · exact I.fastTick hs
  · exact I.writes .refl hs

theorem slowCycle_kept (I : StepInvariant Q) (hq : Q s) (f : Nat) : Q (runEval (slowCycle f s)) := by
  have hs := settle_kept I.toEventInvariant hq
  unfold slowCycle
  dsimp only
  split
  · exact I.slowStep ‹_› hs
  · exact I.count f hs

theorem clockEvent_kept (I : StepInvariant Q) (hq : Q s) : Q (runEval (clockEvent s)) := by
  unfold clockEvent
  split
  · exact tick_kept I hq
  · exact slowCycle_kept I hq 0

/-- Every command keeps what every event, the clock and the reset pin keep. -/
theorem exec_kept_all (I : StepInvariant Q) {c : Instr} (hq : Q s) (h : exec c s = .next t) : Q t := by
  by_cases hc : ordinaryCommand c = true
  · exact exec_kept I.toEventInvariant hc hq h
  · cases c with
    | htTick => exact occur_kept I.toEventInvariant (fun _ => tick_kept I hq) hq h
    | slowCycle f =>
      exact occur_kept I.toEventInvariant (due := fun _ => true) (fun _ => slowCycle_kept I hq f) hq h
    | anchorAdvance i => exact occur_kept I.toEventInvariant (fun _ => clockEvent_kept I hq) hq h
    | powerOnReset =>
      cases h
      exact I.powerOn _ _
    | resetPinAsserted =>
      cases h
      exact I.drive (I.pin hq)
    | _ => exact absurd rfl hc

/-- Every step keeps what every event, the clock and the reset pin keep. -/
theorem step_kept (I : StepInvariant Q) (hq : Q s) (h : step s = .next t) : Q t := by
  unfold step at h
  split at h
  · cases h
    exact hq
  · exact exec_kept_all I (I.queue _ hq) h

end

end Sys2Proof.Machine
end

section
/-! PROOFS. The clock: which operations leave HT, the sleep unit and its lines alone, and what moves HT. -/
namespace Sys2Proof.Machine

/-- The two states of one event agree on HT, the count source, the ratio, the fraction, the sleep state with its lines and
its DOZE expiry, and the reset pin; an evaluation that was owed is owed still, and one is owed when the grant is another. -/
structure Steady (s t : State) : Prop where
  ht : t.tlu.ht = s.tlu.ht
  source : t.tlu.source = s.tlu.source
  sleep : t.scu.sleep = s.scu.sleep
  ratio : t.scu.ratio = s.scu.ratio
  acc : t.scu.acc = s.scu.acc
  dozeExpiry : t.scu.dozeExpiry = s.scu.dozeExpiry
  refEn : t.pins.refEn = s.pins.refEn
  trxPwr : t.pins.trxPwr = s.pins.trxPwr
  inReset : t.inReset = s.inReset
  owed : s.evalDue = true → t.evalDue = true
  grant_or_owed : t.evalDue = true ∨ t.tgu.grant = s.tgu.grant

theorem Steady.refl (s : State) : Steady s s := ⟨rfl, rfl, rfl, rfl, rfl, rfl, rfl, rfl, rfl, id, .inr rfl⟩

theorem Steady.trans {s t u : State} (h : Steady s t) (k : Steady t u) : Steady s u where
  ht := k.ht.trans h.ht
  source := k.source.trans h.source
  sleep := k.sleep.trans h.sleep
  ratio := k.ratio.trans h.ratio
  acc := k.acc.trans h.acc
  dozeExpiry := k.dozeExpiry.trans h.dozeExpiry
  refEn := k.refEn.trans h.refEn
  trxPwr := k.trxPwr.trans h.trxPwr
  inReset := k.inReset.trans h.inReset
  owed := fun x => k.owed (h.owed x)
  grant_or_owed := by
    rcases k.grant_or_owed with e | e
    · exact .inl e
    · exact h.grant_or_owed.imp k.owed e.trans

/-- The operations of the blocks are steady: they leave the sleep unit and its lines alone, and the grant ends with a
notice (R86). -/
theorem Writes.steady {s t : State} (h : Writes s t) : Steady s t :=
  have k := h.keeps
  ⟨k.ht, k.source, by rw [k.scu], by rw [k.scu], by rw [k.scu], by rw [k.scu], k.refEn, k.trxPwr, k.inReset, h.owed,
    h.grant_or_owed⟩

theorem steady_openWindow (s : State) : Steady s (openWindow s) := { Steady.refl s with }

theorem steady_grantStarter (x : Starter) (s : State) : Steady s (grantStarter x s) := by
  unfold grantStarter
  split
  · dsimp only
    rw [postBound_frame]
    exact { Steady.refl s with owed := fun _ => rfl, grant_or_owed := .inl rfl }
  · exact .refl s

theorem steady_takeStart (s : State) : Steady s (takeStart s) := by
  obtain ⟨t, u, v, w, ht, hu, hv, -, hw, hf⟩ := takeStart_parts s
  have htu : Steady t u := by
    rcases hu with rfl | rfl
    · exact .refl _
    · exact steady_openWindow _
  have hvw : Steady v w := by
    rcases hw with rfl | ⟨x, rfl⟩
    · exact .refl _
    · exact steady_grantStarter x v
  exact ht.steady.trans (htu.trans (hv.steady.trans (hvw.trans hf.steady)))

theorem steady_takeRecal (s : State) : Steady s (takeRecal s) := { Steady.refl s with }

theorem steady_startCalibration (s : State) : Steady s (startCalibration s) := { Steady.refl s with }

theorem steady_runPending {s t : State} (h : Steady s t) : Steady s (runPending t) := by
  unfold runPending
  split
  · exact h.trans (steady_startCalibration t)
  · exact h

theorem steady_noteEval {s t : State} (h : Steady s t) : Steady s (noteEval t) :=
  h.trans (Writes.noteEval .refl).steady

theorem steady_post {s t : State} (p : Port) (e : Event) (h : Steady s t) : Steady s (post p e t) :=
  h.trans (writes_post p e .refl).steady

theorem steady_readyFirst (s : State) : Steady s (readyFirst s) := by
  unfold readyFirst
  dsimp only
  split
  · exact steady_noteEval (steady_runPending { Steady.refl s with })
  · exact steady_runPending { Steady.refl s with }

theorem steady_policyEffect (o : PolicyOps) (s : State) : Steady s (policyEffect o s) := { Steady.refl s with }

theorem steady_setVote (p : Port) (v : Vote) (s : State) : Steady s (setVote p v s) :=
  { Steady.refl s with owed := fun _ => rfl, grant_or_owed := .inl rfl }

theorem steady_setInterval (n : Nat) {s t : State} (h : Steady s t) : Steady s (setInterval n t) := by
  unfold setInterval
  dsimp only
  split
  · split <;> exact { h with }
  · exact { h with }

theorem steady_sleepSettings (o : SleepOps) (s : State) : Steady s (sleepSettings o s) := by
  unfold sleepSettings
  dsimp only
  split
  · exact steady_setInterval _ { Steady.refl s with }
  · exact { Steady.refl s with }

theorem steady_countCalibration (f : Nat) (s : State) : Steady s (countCalibration f s) := by
  unfold countCalibration
  split
  · exact { Steady.refl s with }
  · exact .refl s

/-- A completed calibration sets the ratio, to a value R183 accepts, or does not; the rest is steady. -/
theorem takeCalibration_steady (s : State) : Steady s (takeCalibration s) ∨
    ∃ r, 16367616 ≤ r ∧ r ≤ 16400384 ∧ Steady { s with scu := { s.scu with ratio := r } } (takeCalibration s) := by
  unfold takeCalibration
  split
  · rename_i run _
    unfold finishCalibration
    dsimp only
    split
    · rename_i hr
      simp only [Bool.and_eq_true, decide_eq_true_eq] at hr
      exact .inr ⟨_, hr.1, hr.2, steady_noteEval (steady_post _ _ { Steady.refl { s with scu := { s.scu with
        ratio := candidateRatio run.fast run.n } } with })⟩
    · exact .inl (steady_noteEval (steady_post _ _ { Steady.refl s with }))
  · exact .inl (.refl s)

/-! ### Invariants of the clock and the sleep unit -/

/-- A statement about the clock and the sleep lines that steady operations with the evaluation they owe keep, and each of
the few operations that are not steady. -/
structure SteadyInvariant (Q : State → Prop) : Prop where
  event : ∀ {s t}, Steady s t → Q s → Q (runEval t)
  still : ∀ {s t}, Steady s t → t.tgu.grant = s.tgu.grant → Q s → Q t
  doze : ∀ {s}, s.scu.sleep = .doze → Q s → Q (takeDoze s)
  ratio : ∀ {s} r, 16367616 ≤ r → r ≤ 16400384 → Q s → Q { s with scu := { s.scu with ratio := r } }
  wake : ∀ {s}, s.scu.sleep = .deep → Q s → Q (startWaking s)
  ready : ∀ {s}, s.scu.sleep = .waking → Q s → Q (readyInWaking s)
  partReset : ∀ {s}, Q s → Q (partReset s)

namespace SteadyInvariant

variable {Q : State → Prop}

theorem runEval (I : SteadyInvariant Q) {s : State} (h : Q s) : Q (runEval s) := I.event (.refl s) h

theorem calibrate (I : SteadyInvariant Q) {s : State} (h : Q s) : Q (Machine.runEval (calibrateEffect s)) := by
  have hp : Q { s with scu := { s.scu with cal := .pending } } := I.still { Steady.refl s with } rfl h
  unfold calibrateEffect
  dsimp only
  split
  · exact I.runEval (I.wake ‹_› hp)
  · exact I.runEval hp
  · split
    · exact I.event (steady_startCalibration s) h
    · exact I.runEval hp

theorem refReady (I : SteadyInvariant Q) {s : State} (h : Q s) : Q (Machine.runEval (takeRefReady s)) := by
  unfold takeRefReady
  split
  · exact I.runEval (I.ready ‹_› h)
  · exact I.event (steady_readyFirst s) h

theorem calibration (I : SteadyInvariant Q) {s : State} (h : Q s) : Q (Machine.runEval (takeCalibration s)) := by
  rcases takeCalibration_steady s with hs | ⟨r, h1, h2, hs⟩
  · exact I.event hs h
  · exact I.event hs (I.ratio r h1 h2 h)

theorem eventInvariant (I : SteadyInvariant Q) : EventInvariant Q where
  answer := fun {s} _ _ _ _ h => I.still { Steady.refl s with } rfl h
  latch p kind tag st h := I.still (latchRefusal_writes p kind tag st _).steady
    (by rw [(latchRefusal_frame p kind tag st _).1]) h
  abort := fun {s} _ h => I.still { Steady.refl s with } rfl h
  drive := fun {s} h => I.still { Steady.refl s with } rfl h
  writes hw h := I.event hw.steady h
  start h := I.event (steady_takeStart _) h
  window h := I.event (steady_openWindow _) h
  recal h := I.event (steady_takeRecal _) h
  doze hd h := I.runEval (I.doze (by simp only [dozeDue, Bool.and_eq_true, decide_eq_true_eq] at hd; exact hd.1) h)
  calibration h := I.calibration h
  wake hd h := I.runEval (I.wake (by simp only [wakeDue, Bool.and_eq_true, decide_eq_true_eq] at hd; exact hd.1) h)
  refReady _ h := I.refReady h
  policy o h := I.event (steady_policyEffect o _) h
  vote p v hw h := I.event (hw.steady.trans (steady_setVote p v _)) h
  sleepConfig o h := I.event (steady_noteEval (steady_sleepSettings o _)) h
  calibrate h := I.calibrate h
  partReset h := I.runEval (I.partReset h)

/-- The pins and the clock added. -/
theorem stepInvariant (I : SteadyInvariant Q) (powerOn : ∀ l n, Q (State.powerOn l n))
    (pin : ∀ s t : State, t.inReset = true → t.scu = s.scu → Q s → Q t)
    (fastTick : ∀ {s}, Q s → Q (fastTick s))
    (slowStep : ∀ {s}, s.scu.sleep.notReady = true → Q s → Q (slowStep s)) : StepInvariant Q where
  toEventInvariant := I.eventInvariant
  queue := fun {s} _ h => I.still { Steady.refl s with } rfl h
  powerOn := powerOn
  pin := fun {s} h => pin s _ rfl rfl h
  fastTick h := I.runEval (fastTick h)
  slowStep hn h := I.runEval (slowStep hn h)
  count f h := I.event (steady_countCalibration f _) h

end SteadyInvariant

/-! ### HT (R1) -/

theorem ht_steadyInvariant (t : HT) : SteadyInvariant (fun s => s.tlu.ht = t) where
  event hs h := (runEval_ht _).trans (hs.ht.trans h)
  still hs _ h := hs.ht.trans h
  doze _ h := h
  ratio _ _ _ h := h
  wake _ h := h
  ready _ h := by
    unfold readyInWaking
    exact (runPending_sleepOnly _).ht.trans h
  partReset h := h

theorem settle_ht (s : State) : (settle s).tlu.ht = s.tlu.ht := by
  have h := settle_kept (s := s) (ht_steadyInvariant s.tlu.ht).eventInvariant rfl
  exact h

@[simp] theorem fastTick_ht (s : State) : (fastTick s).tlu.ht = s.tlu.ht + 1 := rfl

theorem tick_ht (s : State) : (tick s).tlu.ht = s.tlu.ht ∨ (tick s).tlu.ht = s.tlu.ht + 1 := by
  unfold tick
  dsimp only
  split
  · rw [fastTick_ht, settle_ht]
    exact .inr rfl
  · exact .inl (settle_ht s)

theorem slowStep_ht (s : State) : (slowStep s).tlu.ht = s.tlu.ht ∨ (slowStep s).tlu.ht = s.tlu.ht + 1 := by
  unfold slowStep
  dsimp only
  split
  · exact .inr rfl
  · exact .inl rfl

theorem slowCycle_ht (f : Nat) (s : State) :
    (slowCycle f s).tlu.ht = s.tlu.ht ∨ (slowCycle f s).tlu.ht = s.tlu.ht + 1 := by
  unfold slowCycle
  dsimp only
  split
  · rw [← settle_ht s]
    exact slowStep_ht _
  · exact .inl ((steady_countCalibration f _).ht.trans (settle_ht s))

theorem clockEvent_ht (s : State) : (clockEvent s).tlu.ht = s.tlu.ht ∨ (clockEvent s).tlu.ht = s.tlu.ht + 1 := by
  unfold clockEvent
  split
  · exact tick_ht s
  · exact slowCycle_ht 0 s

/-- A clock event leaves HT as it is or advances it by one tick. -/
theorem occur_clock_ht {due : State → Bool} {take : State → State} {s t : State}
    (hk : (take s).tlu.ht = s.tlu.ht ∨ (take s).tlu.ht = s.tlu.ht + 1) (h : occur due take s = .next t) :
    t.tlu.ht = s.tlu.ht ∨ t.tlu.ht = s.tlu.ht + 1 := by
  rcases occur_cases h with rfl | ⟨_, _, rfl⟩
  · exact .inl rfl
  · simpa using hk

/-- Settles O10: HT is kept by every ordinary command, by an invariant of the single value, and a clock event advances it
by at most one tick. -/
theorem handsetTimeMovesOnlyAtClockEvents : Obligations.HandsetTimeMovesOnlyAtClockEvents := by
  intro c s t h
  by_cases hc : ordinaryCommand c = true
  · exact .inl (exec_kept (ht_steadyInvariant s.tlu.ht).eventInvariant hc rfl h)
  · cases c with
    | htTick => exact (occur_clock_ht (tick_ht s) h).imp_right fun e => .inl ⟨e, .inl rfl⟩
    | slowCycle f =>
      exact (occur_clock_ht (due := fun _ => true) (slowCycle_ht f s) h).imp_right
        fun e => .inl ⟨e, .inr (.inl ⟨f, rfl⟩)⟩
    | anchorAdvance i =>
      exact (occur_clock_ht (clockEvent_ht s) h).imp_right fun e => .inl ⟨e, .inr (.inr ⟨i, rfl⟩)⟩
    | powerOnReset =>
      cases h
      exact .inr (.inr ⟨rfl, rfl⟩)
    | resetPinAsserted =>
      cases h
      exact .inl rfl
    | _ => exact absurd rfl hc

end Sys2Proof.Machine
end

section
/-! PROOFS. The sleep unit: the frame of an evaluation, TRX_PWR in DOZE, the sleep lines and the ratio. -/
namespace Sys2Proof.Machine

/-! ### The frame of the owed evaluation -/

/-- What an evaluation writes, block by block: all else is as it was. -/
theorem SleepOnly.eq {s t : State} (h : SleepOnly s t) : t = { s with
    tlu := { s.tlu with source := t.tlu.source, divider := t.tlu.divider }
    scu := { s.scu with
        sleep := t.scu.sleep
        refUp := t.scu.refUp
        cal := t.scu.cal
        plan := t.scu.plan
        wakeTimer := t.scu.wakeTimer
        dozeExpiry := t.scu.dozeExpiry }
    pins := { s.pins with refEn := t.pins.refEn, trxPwr := t.pins.trxPwr }
    evalDue := t.evalDue
    evalWake := t.evalWake } := by
  dsimp only
  rw [← h.pending, ← h.ht, ← h.anchor, ← h.sbt, ← h.ocl, ← h.tgu, ← h.cwu, ← h.cct, ← h.txs, ← h.ports, ← h.trxSel,
    ← h.inReset, ← h.freeCount, ← h.votes, ← h.ratio, ← h.valid, ← h.lastCal, ← h.recalExpiry, ← h.due, ← h.acc,
    ← h.lead, ← h.ppm, ← h.interval, ← h.winExp]

theorem runEval_evalDue (s : State) : (runEval s).evalDue = false := by
  unfold runEval
  split
  · exact (evaluate_evalDue _ _).1
  · simpa using ‹¬ s.evalDue = true›

theorem runEval_evalWake (s : State) : (runEval s).evalWake = if s.evalDue then false else s.evalWake := by
  unfold runEval
  split
  · exact (evaluate_evalDue _ _).2
  · rfl

theorem runEval_frame (s : State) : runEval s = { s with
    tlu := { s.tlu with source := (runEval s).tlu.source, divider := (runEval s).tlu.divider }
    scu := { s.scu with
        sleep := (runEval s).scu.sleep
        refUp := (runEval s).scu.refUp
        cal := (runEval s).scu.cal
        plan := (runEval s).scu.plan
        wakeTimer := (runEval s).scu.wakeTimer
        dozeExpiry := (runEval s).scu.dozeExpiry }
    pins := { s.pins with refEn := (runEval s).pins.refEn, trxPwr := (runEval s).pins.trxPwr }
    evalDue := false
    evalWake := if s.evalDue then false else s.evalWake } := by
  have h := (runEval_sleepOnly s).eq
  rw [runEval_evalDue, runEval_evalWake] at h
  exact h

/-! ### DOZE and its power-up expiry (R180) -/

theorem earliestEligible_congr {s t : State} (ho : t.ocl = s.ocl) (hs : t.sbt = s.sbt) :
    earliestEligible t = earliestEligible s := by
  unfold earliestEligible calendarOrder records State.sub
  rw [ho, hs]

theorem SleepOnly.powerUpAt {s t : State} (h : SleepOnly s t) : powerUpAt t = powerUpAt s := by
  simp only [Machine.powerUpAt, earliestEligible_congr h.ocl h.sbt, h.lead]

theorem powerUpAt_eq_some {s : State} {e : HT} :
    powerUpAt s = some e ↔ ∃ t, earliestEligible s = some t ∧ e = t - BitVec.ofNat 32 s.scu.lead := by
  unfold powerUpAt
  cases earliestEligible s with
  | none => simp
  | some t => simp [eq_comm]

theorem expired_iff {o : Option HT} {now : HT} : expired o now = true ↔ ∃ e, o = some e ∧ notBefore now e = true := by
  cases o with
  | none => simp [expired]
  | some e => simp [expired, passed]

theorem toDoze_trxPwr (s : State) :
    (toDoze s).pins.trxPwr = true ↔ s.tgu.grant ≠ none ∨ expired (powerUpAt s) s.now = true := by
  simp [toDoze, Option.isSome_iff_ne_none]

theorem toDoze_dozeExpiry (s : State) (e : HT) :
    (toDoze s).scu.dozeExpiry = some e ↔ powerUpAt s = some e ∧ notBefore s.now e = false := by
  unfold toDoze
  cases powerUpAt s with
  | none => simp [expired]
  | some x =>
    by_cases hx : notBefore s.now x = true
    · simp only [expired, passed, hx, if_true, Option.some.injEq]
      exact iff_of_false (by simp) (by rintro ⟨rfl, hf⟩; simp [hx] at hf)
    · simp only [expired, passed, hx, Option.some.injEq]
      exact ⟨by rintro ⟨⟩; exact ⟨rfl, by simpa using hx⟩, fun h => congrArg some h.1⟩

/-- An evaluation that ends in DOZE enters it anew, from a state whose other blocks are as they were. -/
theorem chooseState_of_doze {s : State} (h : (chooseState s).scu.sleep = .doze) :
    ∃ u, SleepOnly s u ∧ chooseState s = toDoze u := by
  unfold chooseState tryDeep at h ⊢
  split
  · simp_all [toAwake]
  · exact ⟨s, .refl s, rfl⟩
  · have hc := calibrateFirst_sleepOnly s
    split
    · split
      · simp_all [enterDeep]
      · exact ⟨_, hc, rfl⟩
    · exact ⟨_, hc, rfl⟩

/-- What an owed evaluation that ends in DOZE leaves (R180). -/
theorem runEval_doze {s : State} (hd : s.evalDue = true) (ha : s.scu.sleep = .awake ∨ s.scu.sleep = .doze)
    (hz : (runEval s).scu.sleep = .doze) :
    ((runEval s).pins.trxPwr = true ↔ s.tgu.grant ≠ none ∨ expired (powerUpAt s) s.now = true) ∧
    ∀ e, (runEval s).scu.dozeExpiry = some e ↔ powerUpAt s = some e ∧ notBefore s.now e = false := by
  have he : runEval s = chooseState { s with evalDue := false, evalWake := false } := by
    rcases ha with ha | ha <;> simp [runEval, hd, evaluate, ha]
  rw [he] at hz ⊢
  obtain ⟨u, hu, hc⟩ := chooseState_of_doze hz
  have hp : powerUpAt u = powerUpAt s := hu.powerUpAt
  have hn : u.now = s.now := hu.ht
  rw [hc, toDoze_trxPwr, hu.tgu, hp, hn]
  exact ⟨Iff.rfl, fun e => by rw [toDoze_dozeExpiry, hp, hn]⟩

/-! ### TRX_PWR in DOZE (R180) -/

theorem dozePower_congr {s t : State} (h : s.dozePower) (hr : t.inReset = s.inReset)
    (hsl : t.scu.sleep = s.scu.sleep) (hx : t.scu.dozeExpiry = s.scu.dozeExpiry) (hpw : t.pins.trxPwr = s.pins.trxPwr)
    (hg : t.tgu.grant = s.tgu.grant) : t.dozePower := by
  unfold State.dozePower
  rw [hr, hsl, hx, hpw, hg]
  exact h

/-- Outside DOZE there is nothing to show. -/
theorem dozePower_of_ne {s : State} (h : s.scu.sleep ≠ .doze) : s.dozePower := fun _ hz => absurd hz h

theorem toDoze_dozePower (s : State) : (toDoze s).dozePower := by
  refine fun _ _ => ⟨fun hg => (toDoze_trxPwr s).mpr (.inl hg), fun hg hx => ?_⟩
  obtain ⟨e, he⟩ := Option.ne_none_iff_exists'.mp hx
  obtain ⟨hp, hn⟩ := (toDoze_dozeExpiry s e).mp he
  have hg' : s.tgu.grant = none := hg
  simp [toDoze, hg', hp, expired, passed, hn]

theorem evaluate_dozePower (w : Bool) (s : State) : (evaluate w s).dozePower := by
  have hc : (chooseState s).dozePower := by
    by_cases hz : (chooseState s).scu.sleep = .doze
    · obtain ⟨u, _, hu⟩ := chooseState_of_doze hz
      exact hu ▸ toDoze_dozePower u
    · exact dozePower_of_ne hz
  unfold evaluate
  split
  · exact hc
  · exact hc
  · split
    · exact dozePower_of_ne (by simp [startWaking])
    · exact dozePower_of_ne (by simp_all)
  · exact dozePower_of_ne (by simp_all)

/-- An owed evaluation settles TRX_PWR in DOZE; with none owed the state is as it was. -/
theorem runEval_dozePower {s : State} (h : s.evalDue = true ∨ s.dozePower) : (runEval s).dozePower := by
  unfold runEval
  split
  · exact evaluate_dozePower _ _
  · exact h.resolve_left ‹_›

theorem readyInWaking_sleep (s : State) : (readyInWaking s).scu.sleep = .awake := by
  unfold readyInWaking runPending
  dsimp only
  split <;> rfl

theorem slowStep_scu (s : State) : (slowStep s).scu = { s.scu with
    acc := if 16777216 ≤ s.scu.acc + s.scu.ratio then s.scu.acc + s.scu.ratio - 16777216 else s.scu.acc + s.scu.ratio
    wakeTimer := s.scu.wakeTimer.map (fun n => n - 1) } := by
  unfold slowStep
  dsimp only
  split <;> rfl

theorem partReset_sleep_ne_doze (s : State) : (partReset s).scu.sleep ≠ .doze := by
  show (if s.scu.sleep.notReady then Sleep.waking else Sleep.awake) ≠ .doze
  split <;> simp

theorem dozePower_steadyInvariant : SteadyInvariant State.dozePower where
  event hs h := runEval_dozePower (hs.grant_or_owed.imp_right fun hg =>
    dozePower_congr h hs.inReset hs.sleep hs.dozeExpiry hs.trxPwr hg)
  still hs hg h := dozePower_congr h hs.inReset hs.sleep hs.dozeExpiry hs.trxPwr hg
  doze _ _ := fun _ _ => ⟨fun _ => rfl, fun _ hx => absurd rfl hx⟩
  ratio _ _ _ h := dozePower_congr h rfl rfl rfl rfl rfl
  wake _ _ := dozePower_of_ne (by simp [startWaking])
  ready _ _ := dozePower_of_ne (by simp [readyInWaking_sleep])
  partReset _ := dozePower_of_ne (partReset_sleep_ne_doze _)

theorem dozePower_stepInvariant : StepInvariant State.dozePower :=
  dozePower_steadyInvariant.stepInvariant
    (fun _ _ => dozePower_of_ne (by simp [State.powerOn, Scu.powerOn]))
    (fun _ _ hr _ _ => fun hr' => by simp [hr] at hr')
    (fun h => dozePower_congr h rfl rfl rfl rfl rfl)
    (fun {s} hn _ => dozePower_of_ne (by
      rw [slowStep_scu]
      intro hz
      simp_all [Sleep.notReady]))

/-! ### The sleep lines (R179) -/

theorem readyInWaking_sleepLines (s : State) : (readyInWaking s).sleepLines := by
  have h : ∀ u : State, u.sleepLines → (runPending u).sleepLines := fun u hu =>
    have k := steady_runPending (.refl u)
    sleepLines_congr hu k.inReset k.source k.sleep k.refEn k.trxPwr
  exact sleepLines_congr (h _ (toAwake_sleepLines _ fun _ => rfl)) rfl rfl rfl rfl rfl

theorem partReset_sleepLines (s : State) : (partReset s).sleepLines := by
  intro _
  unfold partReset Scu.partReset
  cases s.scu.sleep.notReady <;> simp

theorem slowStep_steadyLines (s : State) : (slowStep s).inReset = s.inReset ∧
    (slowStep s).tlu.source = s.tlu.source ∧ (slowStep s).pins = s.pins := by
  unfold slowStep
  dsimp only
  split <;> exact ⟨rfl, rfl, rfl⟩

theorem sleepLines_steadyInvariant : SteadyInvariant State.sleepLines where
  event hs h := runEval_sleepLines _ (sleepLines_congr h hs.inReset hs.source hs.sleep hs.refEn hs.trxPwr)
  still hs _ h := sleepLines_congr h hs.inReset hs.source hs.sleep hs.refEn hs.trxPwr
  doze hz h := fun hr => by
    have := h hr
    simp_all [takeDoze]
  ratio _ _ _ h := sleepLines_congr h rfl rfl rfl rfl rfl
  wake hd h := startWaking_sleepLines _ fun hr => ((h hr).1).mpr (.inl hd)
  ready _ _ := readyInWaking_sleepLines _
  partReset _ := partReset_sleepLines _

theorem sleepLines_stepInvariant : StepInvariant State.sleepLines :=
  sleepLines_steadyInvariant.stepInvariant
    (fun _ _ _ => by simp [State.powerOn, Scu.powerOn])
    (fun _ _ hr _ _ => fun hr' => by simp [hr] at hr')
    (fun h => sleepLines_congr h rfl rfl rfl rfl rfl)
    (fun {s} _ h => by
      obtain ⟨hr, hso, hp⟩ := slowStep_steadyLines s
      exact sleepLines_congr h hr hso (by rw [slowStep_scu]) (by rw [hp]) (by rw [hp]))

/-! ### The ratio and the fraction (R183, R190) -/

theorem ratioInRange_congr {s t : State} (h : s.ratioInRange) (hr : t.scu.ratio = s.scu.ratio)
    (ha : t.scu.acc = s.scu.acc) : t.ratioInRange := by
  unfold State.ratioInRange
  rw [hr, ha]
  exact h

theorem ratioInRange_steadyInvariant : SteadyInvariant State.ratioInRange where
  event hs h := ratioInRange_congr h ((runEval_ratio _).trans hs.ratio) ((runEval_acc _).trans hs.acc)
  still hs _ h := ratioInRange_congr h hs.ratio hs.acc
  doze _ h := ratioInRange_congr h rfl rfl
  ratio _ h1 h2 h := ⟨h1, h2, h.2.2⟩
  wake _ h := ratioInRange_congr h rfl rfl
  ready {s} _ h := by
    obtain ⟨hlo, hhi, _⟩ := h
    have k := runPending_sleepOnly (toAwake { s with
      tlu := { s.tlu with source := .fast, divider := 0 }, scu := { s.scu with acc := 0, refUp := true, plan := none } })
    exact ⟨k.ratio ▸ hlo, k.ratio ▸ hhi, k.acc ▸ Nat.zero_lt_succ _⟩
  partReset h := ratioInRange_congr h rfl rfl

theorem ratioInRange_stepInvariant : StepInvariant State.ratioInRange :=
  ratioInRange_steadyInvariant.stepInvariant
    (fun _ _ => by simp [State.ratioInRange, State.powerOn, Scu.powerOn])
    (fun _ _ _ he h => ratioInRange_congr h (by rw [he]) (by rw [he]))
    (fun h => ratioInRange_congr h rfl rfl)
    (fun {s} _ h => by
      obtain ⟨hlo, hhi, hacc⟩ := h
      unfold State.ratioInRange
      rw [slowStep_scu]
      refine ⟨hlo, hhi, ?_⟩
      dsimp only
      split <;> omega)

/-- Settles O9: each of the three invariants is kept by every steady operation with the evaluation it owes, and by each
operation that is not steady. -/
theorem sleepLinesAndRatioStayInRange : Obligations.SleepLinesAndRatioStayInRange := by
  refine ⟨fun _ _ hq h => step_kept sleepLines_stepInvariant hq h,
    fun _ _ hq h => step_kept ratioInRange_stepInvariant hq h,
    fun _ _ hq h => step_kept dozePower_stepInvariant hq h, fun s hd ha hz => ?_, runEval_frame⟩
  obtain ⟨hpwr, hexp⟩ := runEval_doze hd ha hz
  refine ⟨?_, fun e => ?_⟩
  · rw [hpwr, expired_iff]
    simp only [powerUpAt_eq_some]
    refine or_congr_right ⟨?_, ?_⟩
    · rintro ⟨_, ⟨t, ht, rfl⟩, hn⟩
      exact ⟨t, ht, hn⟩
    · rintro ⟨t, ht, hn⟩
      exact ⟨_, ⟨t, ht, rfl⟩, hn⟩
  · rw [hexp, powerUpAt_eq_some]
    rfl

end Sys2Proof.Machine
end

section
/-! PROOFS. Times: the half-range order, normalised anchors and conversions. -/
namespace Sys2Proof.Machine

/-! ### The half-range order (R3) -/

theorem notBefore_iff (t u : HT) : notBefore t u = true ↔ (t.toNat + 2 ^ 32 - u.toNat) % 2 ^ 32 < 2 ^ 31 := by
  have hu := u.isLt
  rw [notBefore, decide_eq_true_eq, BitVec.toNat_sub, Nat.add_comm, ← Nat.add_sub_assoc (by omega)]

theorem before_iff (t u : HT) : before t u = true ↔ ¬ notBefore t u = true := by
  simp [before]

theorem notBefore_iff_not_before (t u : HT) : notBefore t u = true ↔ ¬ before t u = true := by
  rw [before_iff, Decidable.not_not]

/-- Settles O14, by the definitions of the three comparisons. -/
theorem halfRangeComparisonDecidesBefore : Obligations.HalfRangeComparisonDecidesBefore := by
  intro t u now
  refine ⟨notBefore_iff t u, ?_, ?_⟩
  · rw [before_iff, notBefore_iff]
  · rw [← notBefore_iff_not_before]
    rfl

/-! ### Ticks counted from one time -/

theorem addTicks_addTicks (t : HT) (m n : Nat) : addTicks (addTicks t m) n = addTicks t (m + n) := by
  simp only [addTicks, BitVec.add_assoc, BitVec.ofNat_add]

theorem addTicks_position (ht a : HT) : addTicks a (position ht a) = ht := by
  simp only [addTicks, position, BitVec.ofNat_toNat, BitVec.setWidth_eq]
  bv_omega

theorem position_addTicks (a : HT) {m n : Nat} (h : m ≤ n) (hn : n < 2 ^ 32) :
    position (addTicks a n) (addTicks a m) = n - m := by
  simp only [addTicks, position]
  bv_omega

/-- Less than half the range after a time, the order is the order of the tick counts. -/
theorem before_addTicks (a : HT) {m n : Nat} (hm : m < 2 ^ 31) (hn : n < 2 ^ 31) :
    before (addTicks a m) (addTicks a n) = decide (m < n) := by
  rw [Bool.eq_iff_iff, before_iff, notBefore, decide_eq_true_eq, decide_eq_true_eq]
  have hd : addTicks a m - addTicks a n = BitVec.ofNat 32 m - BitVec.ofNat 32 n := by
    simp only [addTicks]
    bv_omega
  rw [hd, BitVec.toNat_sub, BitVec.toNat_ofNat, BitVec.toNat_ofNat]
  omega

/-! ### Normalised anchors (R7, R9) -/

theorem reduceHyper_cast (d : HT) : (reduceHyper d : Int) = d.toInt % 327680 := by
  unfold reduceHyper
  omega

/-- A difference of less than one hyperframe is left as it is. -/
theorem reduceHyper_of_lt {d : HT} (h : d.toNat < 327680) : reduceHyper d = d.toNat := by
  have := reduceHyper_cast d
  have hd : d.toInt = d.toNat := BitVec.toInt_eq_toNat_of_lt (by omega)
  omega

/-- A normalised anchor is the value moved by whole hyperframes. -/
theorem normalise_eq_add (ht a : HT) :
    normalise ht a = a + BitVec.ofInt 32 ((ht - a).toInt / 327680 * 327680) := by
  have hr : BitVec.ofNat 32 (reduceHyper (ht - a)) = BitVec.ofInt 32 ((ht - a).toInt % 327680) := by
    rw [← reduceHyper_cast, BitVec.ofInt_natCast]
  have hd : ht - a = BitVec.ofInt 32 ((ht - a).toInt / 327680 * 327680) + BitVec.ofInt 32 ((ht - a).toInt % 327680) := by
    rw [← BitVec.ofInt_add, Int.mul_comm, Int.mul_ediv_add_emod, BitVec.ofInt_toInt]
  unfold normalise
  rw [hr]
  generalize BitVec.ofInt 32 ((ht - a).toInt / 327680 * 327680) = x at hd ⊢
  generalize BitVec.ofInt 32 ((ht - a).toInt % 327680) = y at hd ⊢
  bv_omega

theorem normalise_of_lt {ht a : HT} (h : position ht a < 327680) : normalise ht a = a := by
  unfold normalise
  rw [reduceHyper_of_lt h, BitVec.ofNat_toNat, BitVec.setWidth_eq]
  bv_omega

/-! ### Conversion (R14) -/

theorem raiseOnce_of_lt (a : HT) {m n : Nat} (hm : m < 2 ^ 31) (hn : n < 2 ^ 31) (h : m < n) :
    raiseOnce (addTicks a n) (addTicks a m) = addTicks a (m + 327680) := by
  unfold raiseOnce
  rw [before_addTicks a hm hn, addTicks_addTicks, decide_eq_true h, if_pos rfl, hyperframe]

theorem raiseOnce_of_le (a : HT) {m n : Nat} (hm : m < 2 ^ 31) (hn : n < 2 ^ 31) (h : n ≤ m) :
    raiseOnce (addTicks a n) (addTicks a m) = addTicks a m := by
  unfold raiseOnce
  rw [before_addTicks a hm hn, decide_eq_false (Nat.not_lt.mpr h)]
  rfl

/-- Counted from the anchor, the offset is raised until it is not below the position and the guard, which takes at most
two hyperframes. -/
theorem convert_eq_addTicks {ht a : HT} {frame slot o p : Nat} (hp : position ht a = p) (hp' : p < 327680)
    (ho : tickOffset frame slot = o) (ho' : o < 327680) :
    ∃ k, k ≤ 2 ∧ convert ht a frame slot = addTicks a (o + k * 327680) ∧ p + 32 ≤ o + k * 327680 ∧
      o + k * 327680 < p + 32 + 327680 ∧ (k = 0 ↔ ¬ o < p + 32) := by
  have he : earliestStart ht = addTicks a (p + 32) := by
    rw [← addTicks_addTicks, ← hp, addTicks_position, earliestStart]
  unfold convert firstCandidate
  rw [he, ho]
  by_cases h1 : o < p + 32
  · rw [raiseOnce_of_lt a (by omega) (by omega) h1]
    by_cases h2 : o + 327680 < p + 32
    · rw [raiseOnce_of_lt a (by omega) (by omega) h2]
      exact ⟨2, by omega, congrArg (addTicks a) (by omega), by omega, by omega, by omega⟩
    · rw [raiseOnce_of_le a (by omega) (by omega) (by omega)]
      exact ⟨1, by omega, by rw [Nat.one_mul], by omega, by omega, by omega⟩
  · rw [raiseOnce_of_le a (by omega) (by omega) (by omega), raiseOnce_of_le a (by omega) (by omega) (by omega)]
    exact ⟨0, by omega, by rw [Nat.zero_mul, Nat.add_zero], by omega, by omega, by omega⟩

/-- Settles O15: the normalised anchor by the division of the signed difference, the conversion by counting in ticks from
the anchor. -/
theorem normalisingAndConversion : Obligations.NormalisingAndConversion := by
  refine ⟨fun ht a => ⟨position_normalise_lt ht a, ⟨_, normalise_eq_add ht a, by omega, by omega⟩, normalise_of_lt⟩,
    fun ht anchor frame slot hp hf hs => ?_⟩
  have hE : addTicks ht 32 = addTicks anchor (position ht anchor + 32) := by
    rw [← addTicks_addTicks, addTicks_position]
  have hn : before (addTicks anchor (frame * 320 + slot * 16)) (addTicks anchor (position ht anchor + 32)) = _ :=
    before_addTicks anchor (by omega) (by omega)
  obtain ⟨k, hk, hc, hlo, hhi, hz⟩ := convert_eq_addTicks (ht := ht) (a := anchor) (frame := frame) (slot := slot)
    (o := frame * 320 + slot * 16) rfl hp rfl (by omega)
  have hw := position_addTicks anchor hlo (by omega)
  refine ⟨k, hk, hc, ?_, ?_⟩
  · rw [hc, hE]
    exact Nat.lt_of_le_of_lt (Nat.le_of_eq hw) (by omega)
  · rw [hz, hE, notBefore_iff_not_before, hn, decide_eq_true_eq, Nat.not_lt]

end Sys2Proof.Machine
end

section
/-! PROOFS. The clock events: an HT tick, a slow cycle and an anchor advance with nothing else due. -/
namespace Sys2Proof.Machine

variable {s : State}

/-! ### An event that owes no evaluation and queues nothing -/

/-- An event that is due, leaves the ports alone and owes no evaluation answers its effect. -/
theorem occur_quiet {due : State → Bool} {take : State → State} (hr : s.ready) (hf : s.attentionFollows)
    (hd : due s = true) (he : (take s).evalDue = s.evalDue) (hp : (take s).ports = s.ports)
    (hi : (take s).inReset = s.inReset) : occur due take s = .next (take s) := by
  have hf' : (take s).attentionFollows := by
    unfold State.attentionFollows State.unit
    rw [hp, hi]
    exact hf
  rw [occur_due hr.1 hd, runEval_of_not_due _ (he.trans hr.2.1), driveAttention_of_follows _ hf']

/-! ### The advance of HT (R1, R8) -/

/-- The anchor after an advance, with R8's hyperframe written out. -/
theorem advanceAnchor_eq_map (ht : HT) (a : Option HT) :
    advanceAnchor ht a = a.map (fun x => if (ht - x).toNat = 327680 then x + 327680 else x) := by
  cases a with
  | none => rfl
  | some x => rfl

theorem advanceHt_eq (s : State) : advanceHt s = { s with tlu := { s.tlu with
    ht := s.tlu.ht + 1
    anchor := ⟨s.tlu.anchor.sub0.map (fun x => if (s.tlu.ht + 1 - x).toNat = 327680 then x + 327680 else x),
      s.tlu.anchor.sub1.map (fun x => if (s.tlu.ht + 1 - x).toNat = 327680 then x + 327680 else x)⟩ } } := by
  rw [← advanceAnchor_eq_map, ← advanceAnchor_eq_map]
  rfl

theorem advanceHt_anchor (s : State) (i : Sub) : (advanceHt s).anchor i = advanceAnchor (s.tlu.ht + 1) (s.anchor i) := by
  cases i <;> rfl

/-- The advance that brings an anchor's position to 327,680 moves it one hyperframe up, to position 0. -/
theorem advanceHt_at_end {i : Sub} {a : HT} (ha : s.anchor i = some a) (hp : position s.tlu.ht a = 327679) :
    (advanceHt s).anchor i = some (a + 327680) ∧ position (advanceHt s).tlu.ht (a + 327680) = 0 := by
  have h1 : (s.tlu.ht + 1 - a).toNat = 327680 := by
    unfold position at hp
    bv_omega
  refine ⟨by rw [advanceHt_anchor, ha, advanceAnchor_eq_map, Option.map_some, if_pos h1], ?_⟩
  show (s.tlu.ht + 1 - (a + 327680)).toNat = 0
  bv_omega

/-! ### With nothing due -/

theorem tick_of_nothingDue (hn : s.nothingDue) (hc : countingFast s = true) : tick s = fastTick s := by
  simp [tick, settle_of_nothingDue s hn, hc]

theorem slowCycle_asleep (hn : s.nothingDue) (hs : s.scu.sleep.notReady = true) (f : Nat) :
    slowCycle f s = slowStep s := by
  simp [slowCycle, settle_of_nothingDue s hn, hs]

theorem slowCycle_awake (hn : s.nothingDue) (hs : s.scu.sleep.notReady = false) (f : Nat) :
    slowCycle f s = countCalibration f s := by
  simp [slowCycle, settle_of_nothingDue s hn, hs]

theorem slowStep_frame (s : State) : (slowStep s).evalDue = s.evalDue ∧ (slowStep s).ports = s.ports ∧
    (slowStep s).inReset = s.inReset := by
  unfold slowStep
  dsimp only
  split <;> exact ⟨rfl, rfl, rfl⟩

theorem slowStep_of_carry (s : State) (h : 16777216 ≤ s.scu.acc + s.scu.ratio) :
    slowStep s = { advanceHt s with scu := (slowStep s).scu } := by
  unfold slowStep
  simp only [h, if_true]

theorem slowStep_of_no_carry (s : State) (h : s.scu.acc + s.scu.ratio < 16777216) :
    slowStep s = { s with scu := (slowStep s).scu } := by
  unfold slowStep
  simp only [Nat.not_le.mpr h, if_false]

/-- HT_TICK with the reference ready and nothing due. -/
theorem exec_htTick (hr : s.ready) (hf : s.attentionFollows) (hn : s.nothingDue) (hc : countingFast s = true) :
    exec .htTick s = .next (fastTick s) := by
  have h := tick_of_nothingDue hn hc
  rw [← h]
  exact occur_quiet hr hf hc (by rw [h]; rfl) (by rw [h]; rfl) (by rw [h]; rfl)

/-- SLOW_CYCLE in DEEP and WAKING with nothing due. -/
theorem exec_slowCycle_asleep (hr : s.ready) (hf : s.attentionFollows) (hn : s.nothingDue)
    (hs : s.scu.sleep.notReady = true) (f : Nat) : exec (.slowCycle f) s = .next (slowStep s) := by
  have h := slowCycle_asleep hn hs f
  obtain ⟨he, hp, hi⟩ := slowStep_frame s
  rw [← h] at he hp hi ⊢
  exact occur_quiet (due := fun _ => true) hr hf rfl he hp hi

/-- SLOW_CYCLE in AWAKE and DOZE with nothing due. -/
theorem exec_slowCycle_awake (hr : s.ready) (hf : s.attentionFollows) (hn : s.nothingDue)
    (hs : s.scu.sleep.notReady = false) (f : Nat) : exec (.slowCycle f) s = .next (countCalibration f s) := by
  have h := slowCycle_awake hn hs f
  have hk : (countCalibration f s).evalDue = s.evalDue ∧ (countCalibration f s).ports = s.ports ∧
      (countCalibration f s).inReset = s.inReset := by
    unfold countCalibration
    split <;> exact ⟨rfl, rfl, rfl⟩
  obtain ⟨he, hp, hi⟩ := hk
  rw [← h] at he hp hi ⊢
  exact occur_quiet (due := fun _ => true) hr hf rfl he hp hi

theorem countCalibration_running {r : CalRun} (h : s.scu.cal = .running r) (f : Nat) :
    countCalibration f s = { s with scu := { s.scu with
      cal := .running (if r.counting then { r with
          slow := r.slow + 1
          fast := r.fast + f } else { r with counting := true }) } } := by
  simp only [countCalibration, h]

theorem countCalibration_of_not_running (h : ∀ r, s.scu.cal ≠ .running r) (f : Nat) : countCalibration f s = s := by
  unfold countCalibration
  split
  · exact absurd ‹_› (h _)
  · rfl

theorem countingFast_iff : countingFast s = true ↔ s.tlu.source = .fast ∧ s.scu.refUp = true := by
  simp [countingFast]

theorem notReady_iff {x : Sleep} : x.notReady = true ↔ x = .deep ∨ x = .waking := by
  cases x <;> simp [Sleep.notReady]

theorem notReady_eq_false_iff {x : Sleep} : x.notReady = false ↔ x = .awake ∨ x = .doze := by
  cases x <;> simp [Sleep.notReady]

/-! ### ANCHOR_ADVANCE (R8) -/

theorem anchorAdvance_not_due {i : Sub} {a : HT} (ha : s.anchor i = some a) (hp : position s.tlu.ht a ≠ 327679) :
    exec (.anchorAdvance i) s = .next s := by
  refine occur_not_due (.inr ?_)
  have h : ¬ position s.now a + 1 = hyperframe := fun e => hp (Nat.succ.inj e)
  simp [anchorAdvanceDue, ha, h]

theorem anchorAdvanceDue_of {i : Sub} {a : HT} (ha : s.anchor i = some a) (hp : position s.tlu.ht a = 327679)
    (hc : countingFast s = true ∨ s.scu.sleep.notReady = true ∧ 16777216 ≤ s.scu.acc + s.scu.ratio) :
    anchorAdvanceDue i s = true := by
  have h : position s.now a + 1 = hyperframe := congrArg (· + 1) hp
  simpa [anchorAdvanceDue, ha, h] using hc

/-- ANCHOR_ADVANCE is the clock event that brings the position to a whole hyperframe (log 3). -/
theorem exec_anchorAdvance {i : Sub} {a : HT} (hr : s.ready) (hf : s.attentionFollows) (hn : s.nothingDue)
    (ha : s.anchor i = some a) (hp : position s.tlu.ht a = 327679)
    (hc : countingFast s = true ∨ s.scu.sleep.notReady = true ∧ 16777216 ≤ s.scu.acc + s.scu.ratio) :
    ∃ t, exec (.anchorAdvance i) s = .next t ∧ (exec .htTick s = .next t ∨ exec (.slowCycle 0) s = .next t) ∧
      t.tlu.ht = s.tlu.ht + 1 ∧ t.anchor i = (advanceHt s).anchor i := by
  have hd := anchorAdvanceDue_of ha hp hc
  by_cases hk : countingFast s = true
  · have h : clockEvent s = fastTick s := by rw [clockEvent, if_pos hk, tick_of_nothingDue hn hk]
    refine ⟨fastTick s, ?_, .inl (exec_htTick hr hf hn hk), rfl, rfl⟩
    rw [← h]
    exact occur_quiet hr hf hd (by rw [h]; rfl) (by rw [h]; rfl) (by rw [h]; rfl)
  · obtain ⟨hs, hcarry⟩ := hc.resolve_left hk
    have h : clockEvent s = slowStep s := by rw [clockEvent, if_neg hk, slowCycle_asleep hn hs]
    obtain ⟨he, hpo, hi⟩ := slowStep_frame s
    refine ⟨slowStep s, ?_, .inr (exec_slowCycle_asleep hr hf hn hs 0), ?_, ?_⟩
    · rw [← h] at he hpo hi ⊢
      exact occur_quiet hr hf hd he hpo hi
    · rw [slowStep_of_carry s hcarry]
      rfl
    · rw [slowStep_of_carry s hcarry]
      rfl

/-- Settles O25: with nothing due each clock event is its own effect, an advance of HT, a count or nothing. -/
theorem clockEventsAdvanceHandsetTime : Obligations.ClockEventsAdvanceHandsetTime := by
  refine ⟨fun s hr hf hn => ⟨fun hs hu => ?_, fun h => occur_not_due (.inr ?_), fun i a ha =>
    ⟨fun hp hc => ?_, anchorAdvance_not_due ha⟩⟩, fun s f hr hf hn hq => ⟨fun hs => ?_, fun hs => ?_⟩⟩
  · rw [exec_htTick hr hf hn (countingFast_iff.mpr ⟨hs, hu⟩), fastTick, advanceHt_eq]
  · rcases h with h | h <;> simp [countingFast, h]
  · have hc' : countingFast s = true ∨ s.scu.sleep.notReady = true ∧ 16777216 ≤ s.scu.acc + s.scu.ratio := by
      rwa [countingFast_iff, notReady_iff]
    obtain ⟨t, ht, hclock, hht, hanchor⟩ := exec_anchorAdvance hr hf hn ha hp hc'
    obtain ⟨ha', hp'⟩ := advanceHt_at_end ha hp
    exact ⟨t, ht, hht, hanchor.trans ha', by rw [hht]; exact hp', hclock⟩
  · obtain ⟨hlo, hhi, hacc⟩ := hq
    refine ⟨slowStep s, exec_slowCycle_asleep hr hf hn (notReady_iff.mpr hs) f, ?_, slowStep_of_no_carry s, fun h => ?_⟩
    · have hmod : (if 16777216 ≤ s.scu.acc + s.scu.ratio then s.scu.acc + s.scu.ratio - 16777216
          else s.scu.acc + s.scu.ratio) = (s.scu.acc + s.scu.ratio) % 16777216 := by
        split <;> omega
      rw [slowStep_scu, hmod]
    · have hcarry := slowStep_of_carry s h
      rw [advanceHt_eq] at hcarry
      exact hcarry
  · rw [exec_slowCycle_awake hr hf hn (notReady_eq_false_iff.mpr hs) f]
    exact ⟨fun r hcal => by rw [countCalibration_running hcal],
      fun hcal => by rw [countCalibration_of_not_running hcal]⟩

end Sys2Proof.Machine
end

section
/-! PROOFS. The timeline's requests and the readings: ANCHOR_ADJUST with the frame of a re-timing, TIME_READ, PART_STATUS,
OCC_LIST and CELL_TABLE_READ. -/
namespace Sys2Proof.Machine

/-! ### The frame of a re-timing (R57, R58) -/

/-- The two states of one event differ in the calendar, the ports and the notices to the sleep unit alone. -/
structure CalendarOnly (s t : State) : Prop where
  pending : t.pending = s.pending
  tlu : t.tlu = s.tlu
  sbt : t.sbt = s.sbt
  tgu : t.tgu = s.tgu
  cwu : t.cwu = s.cwu
  cct : t.cct = s.cct
  txs : t.txs = s.txs
  scu : t.scu = s.scu
  pins : t.pins = s.pins
  inReset : t.inReset = s.inReset
  freeCount : t.freeCount = s.freeCount

theorem CalendarOnly.refl (s : State) : CalendarOnly s s := ⟨rfl, rfl, rfl, rfl, rfl, rfl, rfl, rfl, rfl, rfl, rfl⟩

theorem CalendarOnly.trans {s t u : State} (h : CalendarOnly s t) (k : CalendarOnly t u) : CalendarOnly s u where
  pending := k.pending.trans h.pending
  tlu := k.tlu.trans h.tlu
  sbt := k.sbt.trans h.sbt
  tgu := k.tgu.trans h.tgu
  cwu := k.cwu.trans h.cwu
  cct := k.cct.trans h.cct
  txs := k.txs.trans h.txs
  scu := k.scu.trans h.scu
  pins := k.pins.trans h.pins
  inReset := k.inReset.trans h.inReset
  freeCount := k.freeCount.trans h.freeCount

theorem putWaiting_calendarOnly (n : Nat) (o : Occasion) (a : HT) (s : State) : CalendarOnly s (putWaiting n o a s) :=
  { CalendarOnly.refl s with }

theorem loseRetimed_calendarOnly (n : Nat) (o : Occasion) (a : HT) (s : State) :
    CalendarOnly s (loseRetimed n o a s) := by
  unfold loseRetimed
  rw [postBound_frame]
  exact { CalendarOnly.refl s with }

theorem placeCandidate_calendarOnly (n : Nat) (o : Occasion) (c a : HT) (s : State) :
    CalendarOnly s (placeCandidate n o c a s) := by
  unfold placeCandidate
  split
  · exact putWaiting_calendarOnly _ _ _ s
  · split
    · exact loseRetimed_calendarOnly _ _ _ s
    · dsimp only
      split
      · exact loseRetimed_calendarOnly _ _ _ s
      · exact putWaiting_calendarOnly _ _ _ s

theorem align_calendarOnly (d : Int) (n : Nat) (o : Occasion) (s : State) : CalendarOnly s (align d n o s) := by
  unfold align
  split
  · exact putWaiting_calendarOnly _ _ _ s
  · exact placeCandidate_calendarOnly _ _ _ _ s

theorem retimeSlots_calendarOnly (d : Int) (l : List Nat) : ∀ s : State, CalendarOnly s (retimeSlots d l s) := by
  induction l with
  | nil => exact .refl
  | cons n rest ih =>
    intro s
    unfold retimeSlots
    split
    · exact (align_calendarOnly _ _ _ s).trans (ih _)
    · exact ih s

/-- An anchor-change notice moves records and says so; nothing of another block changes (R57, R58). -/
theorem retime_calendarOnly (i : Sub) (old : Option HT) (new : HT) (s : State) :
    CalendarOnly s (retime i old new s) := by
  unfold retime
  split
  · exact retimeSlots_calendarOnly _ _ s
  · exact .refl s

/-! ### Network time (R7) -/

/-- Under an anchor less than one hyperframe behind, frame and tick are those of the position. -/
theorem networkTime_of_lt {anchor t : HT} (h : position t anchor < 327680) :
    networkTime anchor t = (position t anchor / 320, position t anchor % 320) := by
  rw [networkTime, reduceHyper_of_lt h]
  rfl

theorem frameTick_of_lt {anchor ht : HT} (h : position ht anchor < 327680) :
    frameTick anchor ht = oct16 (position ht anchor / 320) ++ oct16 (position ht anchor % 320) := by
  rw [frameTick, networkTime_of_lt h]

/-! ### ANCHOR_ADJUST (R12, R13) -/

section
variable {s : State} {i : Sub} {q : StackPort} {n : Nat} {d : Int}

theorem runAnchorAdjust_taken {x : HT} (hb : (s.sub i).bound = some q) (hn : subOf n = some i)
    (hc : (s.sub i).state = .camped) (ha : s.anchor i = some x) (h1 : -160 ≤ d) (h2 : d ≤ 160) :
    runAnchorAdjust (portOf q) (n, d) s = .taken .ok (setAnchorRetimed i (addShift x d) s)
      (lit (octHt (normalise s.now (addShift x d)) ++ frameTick (normalise s.now (addShift x d)) s.now)) := by
  have hr : ¬ (d < -160 ∨ 160 < d) := by omega
  rw [runAnchorAdjust, withSub_bound hb hn]
  simp [hc, hr, ha, ok]

theorem runAnchorAdjust_subState (hb : (s.sub i).bound = some q) (hn : subOf n = some i)
    (hc : (s.sub i).state ≠ .camped) : runAnchorAdjust (portOf q) (n, d) s = .refused .subState [] := by
  rw [runAnchorAdjust, withSub_bound hb hn, if_pos hc]
  rfl

theorem runAnchorAdjust_range (hb : (s.sub i).bound = some q) (hn : subOf n = some i)
    (hc : (s.sub i).state = .camped) (hd : d < -160 ∨ 160 < d) :
    runAnchorAdjust (portOf q) (n, d) s = .refused .adjustRange [] := by
  rw [runAnchorAdjust, withSub_bound hb hn, if_neg (fun h => h hc), if_pos hd]
  rfl

end

/-- Settles O24: the anchor is written, and what follows it is a re-timing, which leaves all but the calendar alone. -/
theorem anchorAdjustMovesTheAnchor : Obligations.AnchorAdjustMovesTheAnchor := by
  intro s tag i q a lo hi hr hb hs
  refine ⟨fun x hc hx h1 h2 => ?_, fun hc => ?_, fun hc hd => ?_⟩
  · have hrun := runAnchorAdjust_taken hb hs hc hx h1 h2
    rw [setAnchorRetimed, hx] at hrun
    have hk := retime_calendarOnly i (some x) (normalise s.tlu.ht (addShift x (s16 lo hi)))
      (s.setAnchor i (some (normalise s.tlu.ht (addShift x (s16 lo hi)))))
    refine ⟨_, _, rfl, ?_, rfl, ?_, ?_, hk.sbt, hk.cwu, hk.tgu, hk.cct, hk.txs, hk.pins, hk.pending, ?_, ?_, ?_, hk.scu,
      by rw [hk.pins]; rfl, by rw [hk.pins]; rfl, hk.inReset, hk.freeCount⟩
    · rw [List.append_assoc, ← frameTick_of_lt (position_normalise_lt _ _)]
      exact serve_taken hr.1 (stackOnly_on_portOf q) (by simp) rfl hrun
    · rw [State.anchor, hk.tlu]
      exact PerSub.get_set_self _ _ _
    · rw [State.anchor, hk.tlu]
      exact PerSub.get_set_other _ _ _
    · rw [hk.tlu]
      rfl
    · rw [hk.tlu]
      rfl
    · rw [hk.tlu]
      rfl
  · exact serve_refused_ready hr (stackOnly_on_portOf q) (by simp) rfl (runAnchorAdjust_subState hb hs hc)
  · exact serve_refused_ready hr (stackOnly_on_portOf q) (by simp) rfl (runAnchorAdjust_range hb hs hc hd)

/-! ### TIME_READ (R16) -/

theorem timeField_of_inRange {s : State} (h : s.anchorsInRange) (i : Sub) : timeField s i =
    optional 4 ((s.anchor i).map (fun a =>
      oct16 ((s.tlu.ht - a).toNat / 320) ++ oct16 ((s.tlu.ht - a).toNat % 320))) := by
  unfold timeField
  cases ha : s.anchor i with
  | none => rfl
  | some a =>
    dsimp only
    rw [networkTime_of_lt (h i a ha)]
    rfl

theorem exec_timeRead {s : State} (hr : s.ready) (h : s.anchorsInRange) (p : Port) (tag : Octet) :
    exec (.timeRead p tag []) s = .next (answered p tag .ok
      (lit (octHt s.tlu.ht ++ oct32 (s.tlu.ht.toNat / 16) ++ oct8 s.scu.sleep.code)
        ++ optional 4 ((s.anchor .sub0).map (fun a =>
            oct16 ((s.tlu.ht - a).toNat / 320) ++ oct16 ((s.tlu.ht - a).toNat % 320)))
        ++ optional 4 ((s.anchor .sub1).map (fun a =>
            oct16 ((s.tlu.ht - a).toNat / 320) ++ oct16 ((s.tlu.ht - a).toNat % 320)))) s) := by
  rw [← timeField_of_inRange h, ← timeField_of_inRange h]
  exact serve_taken_ready hr (everyPort_on p) (Nat.zero_le _) rfl rfl rfl

/-! ### PART_STATUS (R37) -/

theorem boundCode_octet (b : Option StackPort) : oct8 (boundCode b) = (match b with
    | some .spt0 => oct8 0
    | some .spt1 => oct8 1
    | none => oct8 2) := by
  cases b with
  | none => rfl
  | some q => cases q <;> rfl

theorem activeCode_octet (s : State) (i : Sub) : oct8 (activeCode s i) = (match (s.txs.active.get i).bind s.send with
    | some r => oct8 r.state.code
    | none => oct8 0) := by
  unfold activeCode
  cases s.txs.active.get i with
  | none => rfl
  | some id => cases h : s.send id <;> simp [h]

/-- The items of a subscription with the port and the slot codes of R205 written out. -/
theorem statusOf_eq (s : State) (i : Sub) : statusOf s i =
    lit ((match (s.sub i).bound with
        | some .spt0 => oct8 0
        | some .spt1 => oct8 1
        | none => oct8 2) ++ oct8 (s.sub i).state.code ++ oct8 (s.sub i).prior.code ++ oct8 (s.sub i).miss
        ++ octFlag (s.anchor i).isSome)
      ++ optional 4 ((servingCell s i).map (fun c => oct16 c.code ++ oct16 c.channel))
      ++ lit (oct8 (subRecordCount s i) ++ oct8 (ctxCount s i) ++ octFlag (inCall s i)
        ++ (match (s.txs.active.get i).bind s.send with
          | some r => oct8 r.state.code
          | none => oct8 0)
        ++ octFlag (s.txs.staged.get i).isSome ++ octFlag (s.sub i).stagedWaiting) := by
  rw [statusOf, boundCode_octet, activeCode_octet]

/-! ### OCC_LIST and CELL_TABLE_READ (R56, R105) -/

theorem runOccList_taken {s : State} {i : Sub} {q : StackPort} {m n : Nat} (hb : (s.sub i).bound = some q)
    (hm : subOf m = some i) (hn : n ≤ 31) : runOccList (portOf q) (m, n) s = .taken .ok s
      (lit (oct8 (subRecordCount s i)
          ++ oct8 ((((calendarOrder s).filter (fun y => decide (y.2.sub = i))).drop n).take 8).length)
        ++ (((((calendarOrder s).filter (fun y => decide (y.2.sub = i))).drop n).take 8).map (listItem s)).flatten) := by
  rw [runOccList, withSub_bound hb hm, if_neg (by simpa using hn)]
  rfl

theorem resting_iff (x : SubState) : x.resting = true ↔ x = .detached ∨ x = .absent := by
  cases x <;> simp [SubState.resting]

theorem shownHandover_eq (s : State) (i : Sub) : shownHandover s i =
    if (s.sub i).state = .detached ∨ (s.sub i).state = .absent then
      lit (oct8 (s.watch i).trigger.code) ++ optional 7 ((s.watch i).switchRec.map (fun x =>
        oct8 x.target ++ oct16 x.code ++ oct16 x.channel ++ oct16 x.handle))
    else [] := by
  simp only [shownHandover, resting_iff, switchItem]

theorem runCellTableRead_taken {s : State} {i : Sub} {q : StackPort} {m n : Nat} (hb : (s.sub i).bound = some q)
    (hm : subOf m = some i) (hn : n ≤ 15) : runCellTableRead (portOf q) (m, n) s = .taken .ok s
      (opt1 (s.sub i).serving
        ++ lit (oct8 (s.watch i).config.k ++ oct8 (s.watch i).config.h
          ++ oct8 ((s.watch i).cells.countP (fun e => decide (e.state ≠ .empty))))
        ++ evalItem (s.watch i).evalRec ++ lit (oct8 (((s.watch i).cells.zipIdx.drop n).take 8).length)
        ++ ((((s.watch i).cells.zipIdx.drop n).take 8).map (fun y => entryItem (s.watch i).config.h
            (servingLevel (s.watch i).cells) y.2 y.1)).flatten ++ shownHandover s i) := by
  rw [runCellTableRead, withSub_bound hb hm, if_neg (by simpa using hn)]
  rfl

/-- Settles O22: each reading is taken with the state kept, and its items are those the rules list. -/
theorem timeStatusAndListsAreRead : Obligations.TimeStatusAndListsAreRead := by
  refine ⟨fun s p tag hr h => exec_timeRead hr h p tag, fun s tag item hr hitem => ?_,
    fun s tag q i a n hr hb hs => ⟨fun l hn hl => ?_, fun l hn hl => ?_⟩⟩
  · have hi : ∀ i, item i = statusOf s i := fun i => (hitem i).trans (statusOf_eq s i).symm
    rw [hi, hi]
    exact serve_taken_ready hr rfl (Nat.zero_le _) rfl rfl rfl
  · subst hl
    rw [List.flatMap_def]
    exact serve_taken_ready hr (stackOnly_on_portOf q) (by simp) rfl (runOccList_taken hb hs hn) rfl
  · subst hl
    rw [List.flatMap_def, ← shownHandover_eq]
    exact serve_taken_ready hr (stackOnly_on_portOf q) (by simp) rfl (runCellTableRead_taken hb hs hn) rfl

end Sys2Proof.Machine
end

section
/-! PROOFS. The calendar's slots: the records by slot, the handles' judgements, and what making, resolving, removing and
placing a record write. -/
namespace Sys2Proof.Machine

variable {s t : State} {n : Nat} {o : Occasion} {sl : CalSlot}

/-! ### Slots and records (R41, R43) -/

theorem State.occ_of_slot (h : s.ocl.slots[n]? = some sl) : s.occ n = sl.occ := by
  simp [State.occ, h]

theorem records_eq_filterMap (s : State) :
    records s = s.ocl.slots.zipIdx.filterMap (fun p => p.1.occ.map (fun o => (p.2, o))) := by
  unfold records
  congr 1
  funext p
  cases p.1.occ <;> rfl

theorem mem_records : (n, o) ∈ records s ↔ s.occ n = some o := by
  simp only [records_eq_filterMap, List.mem_filterMap, Option.map_eq_some_iff, Prod.mk.injEq]
  constructor
  · rintro ⟨⟨sl, m⟩, hm, x, hx, rfl, rfl⟩
    rw [State.occ_of_slot (List.mk_mem_zipIdx_iff_getElem?.mp hm), hx]
  · intro h
    obtain ⟨sl, hsl, ho⟩ := s.occ_slot n o h
    exact ⟨(sl, n), List.mk_mem_zipIdx_iff_getElem?.mpr hsl, o, ho, rfl, rfl⟩

theorem nodup_slots_of_records (s : State) : ((records s).map Prod.fst).Nodup := by
  rw [records_eq_filterMap, List.Nodup, List.pairwise_map, List.pairwise_filterMap]
  have h : (s.ocl.slots.zipIdx.map Prod.snd).Nodup := by
    rw [List.zipIdx_map_snd]
    exact List.nodup_range' 1
  refine (List.pairwise_map.mp h).imp fun hne x hx y hy => ?_
  obtain ⟨_, _, rfl⟩ := Option.map_eq_some_iff.mp hx
  obtain ⟨_, _, rfl⟩ := Option.map_eq_some_iff.mp hy
  exact hne

theorem insertOrdered_perm (x : Nat × Occasion) : ∀ l, (insertOrdered x l).Perm (x :: l)
  | [] => .refl _
  | y :: rest => by
    unfold insertOrdered
    split
    · exact .refl _
    · exact ((insertOrdered_perm x rest).cons y).trans (.swap x y rest)

/-- The calendar list holds the records, each once. -/
theorem calendarOrder_perm (s : State) : (calendarOrder s).Perm (records s) := by
  unfold calendarOrder
  induction records s with
  | nil => exact .refl _
  | cons x rest ih => exact (insertOrdered_perm x _).trans (ih.cons x)

theorem mem_slotsWhere {c : Occasion → Bool} : n ∈ slotsWhere c s ↔ ∃ o, s.occ n = some o ∧ c o = true := by
  simp only [slotsWhere, List.mem_map, List.mem_filter, (calendarOrder_perm s).mem_iff]
  constructor
  · rintro ⟨⟨m, x⟩, ⟨hm, hc⟩, rfl⟩
    exact ⟨x, mem_records.mp hm, hc⟩
  · rintro ⟨x, hx, hc⟩
    exact ⟨(n, x), ⟨mem_records.mpr hx, hc⟩, rfl⟩

theorem slotsWhere_nodup (c : Occasion → Bool) (s : State) : (slotsWhere c s).Nodup :=
  (((calendarOrder_perm s).map Prod.fst).nodup_iff.mpr (nodup_slots_of_records s)).sublist
    (List.filter_sublist.map Prod.fst)

theorem sameSlotsBut_modSlot (h : s.sameSlotsBut n t) (f : CalSlot → CalSlot) :
    s.sameSlotsBut n (t.modSlot n f) := by
  intro m hm
  rw [State.slot_modSlot, if_neg hm.symm]
  exact h m hm

theorem sameSlotsBut_refl (n : Nat) (s : State) : s.sameSlotsBut n s := fun _ _ => rfl

theorem sameSlotsBut_trans {u : State} (h : s.sameSlotsBut n t) (k : t.sameSlotsBut n u) : s.sameSlotsBut n u :=
  fun m hm => (k m hm).trans (h m hm)

theorem occ_of_sameSlotsBut {m : Nat} (h : s.sameSlotsBut n t) (hm : m ≠ n) : t.occ m = s.occ m := by
  unfold State.occ
  rw [h m hm]

/-! ### Handles (R41, R42) -/

theorem handleAt_of_slot (h : s.ocl.slots[n]? = some sl) : handleAt s n = sl.gen * 64 + n := by
  simp [handleAt, h]

section
variable {h : Nat}

theorem judge_live (hn : h % 64 = n) (h48 : n < 48) (hsl : s.ocl.slots[n]? = some sl) (hg : sl.gen = h / 64)
    (ho : sl.occ = some o) : judge h s = .live n o sl.late := by
  subst hn
  simp [judge, Nat.not_le.mpr h48, hsl, hg, ho]

theorem judge_late {i : Sub} (hn : h % 64 = n) (h48 : n < 48) (hsl : s.ocl.slots[n]? = some sl) (hg : sl.gen = h / 64)
    (ho : sl.occ = none) (hl : sl.late = true) (hk : sl.kept = some i) : judge h s = .late i := by
  subst hn
  simp [judge, Nat.not_le.mpr h48, hsl, hg, ho, hl, hk]

theorem judge_stale_of_gen (hn : h % 64 = n) (h48 : n < 48) (hsl : s.ocl.slots[n]? = some sl) (hg : sl.gen ≠ h / 64) :
    judge h s = .stale := by
  subst hn
  simp [judge, Nat.not_le.mpr h48, hsl, hg]

/-- A free slot with no late mark makes every handle of it stale, whatever its generation. -/
theorem judge_stale_of_free (hn : h % 64 = n) (h48 : n < 48) (hsl : s.ocl.slots[n]? = some sl) (ho : sl.occ = none)
    (hl : sl.late = false) : judge h s = .stale := by
  subst hn
  simp [judge, Nat.not_le.mpr h48, hsl, ho, hl]

theorem slot_of_judge_live {l : Bool} (hj : judge h s = .live n o l) :
    h % 64 = n ∧ n < 48 ∧ ∃ sl, s.ocl.slots[n]? = some sl ∧ sl.gen = h / 64 ∧ sl.occ = some o := by
  unfold judge at hj
  split at hj
  · cases hj
  · split at hj
    · cases hj
    · rename_i h48 _ sl hsl
      split at hj
      · cases hj
      · rename_i hg
        split at hj
        · cases hj
          exact ⟨rfl, Nat.not_le.mp h48, sl, hsl, Decidable.not_not.mp hg, ‹_›⟩
        · split at hj
          · split at hj <;> cases hj
          · cases hj

end

/-- The handle of a slot below 48 names that slot and its generation. -/
theorem handleAt_parts (hsl : s.ocl.slots[n]? = some sl) (h48 : n < 48) :
    handleAt s n % 64 = n ∧ sl.gen = handleAt s n / 64 := by
  rw [handleAt_of_slot hsl]
  omega

/-! ### Making a record (R41, R47) -/

/-- All that making a record can do: it takes the lowest free slot and gives the insertion notice. -/
theorem makeRecord_cases {u : State} (h : makeRecord o s = some (n, u)) :
    ∃ sl, s.ocl.slots[n]? = some sl ∧ sl.occ = none ∧ (∀ m, m < n → ∃ x, s.occ m = some x) ∧
      u = noteInsertion o.sub o.start (s.modSlot n (fun sl => sl.take o)) := by
  unfold makeRecord at h
  split at h
  · rename_i i hf
    cases h
    obtain ⟨hlt, hfree, hheld⟩ := List.findIdx?_eq_some_iff_getElem.mp hf
    refine ⟨_, List.getElem?_eq_getElem hlt, by simpa using hfree, fun m hm => ?_, rfl⟩
    rw [State.occ_of_slot (List.getElem?_eq_getElem (Nat.lt_trans hm hlt))]
    exact Option.ne_none_iff_exists'.mp (by simpa using hheld m hm)
  · cases h

/-- With fewer records than slots one slot is free. -/
theorem makeRecord_of_count_lt (o : Occasion) (h : recordCount s < s.ocl.slots.length) :
    ∃ n u, makeRecord o s = some (n, u) := by
  cases hf : freeSlot s with
  | some n => exact ⟨n, _, by rw [makeRecord, hf]⟩
  | none =>
    have hheld : ∀ x ∈ s.ocl.slots, x.occ.isNone = false := List.findIdx?_eq_none_iff.mp hf
    have hall : recordCount s = s.ocl.slots.zipIdx.length := by
      rw [recordCount, records_eq_filterMap, List.length_filterMap_eq_countP, List.countP_eq_length]
      rintro ⟨x, m⟩ hx
      have := hheld x (List.mem_of_getElem? (List.mk_mem_zipIdx_iff_getElem?.mp hx))
      simpa [← Option.isNone_eq_false_iff] using this
    rw [List.length_zipIdx] at hall
    omega

/-- The slot a made record stands in. -/
theorem slot_makeRecord (i : Sub) (a : HT) (hsl : s.ocl.slots[n]? = some sl) :
    (noteInsertion i a (s.modSlot n (fun sl => sl.take o))).ocl.slots[n]? = some (sl.take o) :=
  (s.slot_modSlot n n _).trans (by simp [hsl])

/-! ### Leaving, and waiting at a start (R51, R52, R58) -/

/-- A record that waits at a start under an anchor: no end and no grace (R51, R58, R59). -/
def Occasion.waitingAt (o : Occasion) (start anchor : HT) : Occasion :=
  { o with start := start, state := .waiting, endHt := none, grace := none, placement := anchor }

theorem anchorFor_of_valid {a : HT} (h : s.anchor o.sub = some a) : anchorFor s o = a := by
  simp [anchorFor, h]

theorem postBound_ocl (i : Sub) (e : Event) (s : State) : (postBound i e s).ocl = s.ocl := by
  rw [postBound_frame]

theorem slot_leave (hsl : s.ocl.slots[n]? = some sl) :
    (leave n s).ocl.slots[n]? = some { sl with occ := none, late := false, kept := none } :=
  (s.slot_modSlot n n _).trans (by simp [hsl])

theorem sameSlotsBut_leave (n : Nat) (s : State) : s.sameSlotsBut n (leave n s) :=
  sameSlotsBut_modSlot (sameSlotsBut_refl n s) _

theorem occ_loseRetimed (h : s.occ n = some o) (x : Occasion) (a : HT) : (loseRetimed n x a s).occ n = none := by
  obtain ⟨sl, hsl, _⟩ := s.occ_slot n o h
  refine State.occ_of_slot (?_ : _ = some { sl with occ := none, late := false, kept := none })
  rw [loseRetimed, postBound_ocl]
  exact slot_leave hsl

theorem sameSlotsBut_loseRetimed (n : Nat) (x : Occasion) (a : HT) (s : State) :
    s.sameSlotsBut n (loseRetimed n x a s) := by
  intro m hm
  rw [loseRetimed, postBound_ocl]
  exact sameSlotsBut_leave n s m hm

theorem occ_putWaiting (h : s.occ n = some o) (x : Occasion) (a : HT) :
    (putWaiting n x a s).occ n = some (x.waitingAt a (anchorFor s x)) := by
  obtain ⟨sl, hsl, _⟩ := s.occ_slot n o h
  exact s.occ_modSlot_self n _ sl hsl

theorem sameSlotsBut_putWaiting (n : Nat) (x : Occasion) (a : HT) (s : State) :
    s.sameSlotsBut n (putWaiting n x a s) :=
  sameSlotsBut_modSlot (sameSlotsBut_refl n s) _

theorem sameSlotsBut_align (d : Int) (n : Nat) (x : Occasion) (s : State) : s.sameSlotsBut n (align d n x s) := by
  unfold align placeCandidate
  split
  · exact sameSlotsBut_putWaiting _ _ _ s
  · split
    · exact sameSlotsBut_putWaiting _ _ _ s
    · split
      · exact sameSlotsBut_loseRetimed _ _ _ s
      · dsimp only
        split
        · exact sameSlotsBut_loseRetimed _ _ _ s
        · exact sameSlotsBut_putWaiting _ _ _ s

/-! ### Resolving (R50, R51) -/

theorem resolve_of_occ (r : Resolution) (h : s.occ n = some o) :
    resolve r n s = rearm n o (if r.marksLate then markLate n o.sub s else s) := by
  simp only [resolve, h]

theorem sameSlotsBut_resolve (r : Resolution) (n : Nat) (s : State) : s.sameSlotsBut n (resolve r n s) := by
  cases h : s.occ n with
  | none => simpa only [resolve, h] using sameSlotsBut_refl n s
  | some o =>
    rw [resolve_of_occ r h]
    have hm : s.sameSlotsBut n (if r.marksLate then markLate n o.sub s else s) := by
      split
      · exact sameSlotsBut_modSlot (sameSlotsBut_refl n s) _
      · exact sameSlotsBut_refl n s
    unfold rearm
    split
    · exact sameSlotsBut_modSlot hm _
    · exact sameSlotsBut_trans hm (sameSlotsBut_align _ _ _ _)

/-- The last occurrence of a record resolved with a late mark (R50, R52). -/
theorem slot_resolve_last_marked {r : Resolution} (hsl : s.ocl.slots[n]? = some sl) (ho : sl.occ = some o)
    (hlast : o.period = 0 ∨ o.remaining = 1) (hr : r.marksLate = true) :
    (resolve r n s).ocl.slots[n]? = some { sl with late := true, kept := some o.sub, occ := none } := by
  rw [resolve_of_occ r ((State.occ_of_slot hsl).trans ho), if_pos hr, rearm, if_pos hlast]
  simp [leaveByRearm, markLate, State.slot_modSlot, hsl]

/-- The last occurrence of a record resolved without one: what the slot's mark was before, it is. -/
theorem slot_resolve_last_unmarked {r : Resolution} (hsl : s.ocl.slots[n]? = some sl) (ho : sl.occ = some o)
    (hlast : o.period = 0 ∨ o.remaining = 1) (hr : r.marksLate = false) :
    (resolve r n s).ocl.slots[n]? = some { sl with occ := none } := by
  rw [resolve_of_occ r ((State.occ_of_slot hsl).trans ho), hr, rearm, if_pos hlast]
  simp [leaveByRearm, State.slot_modSlot, hsl]

theorem shift_self (a : HT) : shift a a = 0 := by
  rw [shift, BitVec.sub_self]
  rfl

theorem advanced_eq (o : Occasion) : advanced o = { o with
    period := o.stagedPeriod.getD o.period
    stagedPeriod := none
    start := addTicks o.start (o.stagedPeriod.getD o.period * 320)
    frame := (o.frame + o.stagedPeriod.getD o.period) % 1024
    remaining := o.remaining - 1 } := by
  have hr : (if o.remaining = 0 then 0 else o.remaining - 1) = o.remaining - 1 := by
    split <;> omega
  unfold advanced
  rw [hr]
  cases o.stagedPeriod <;> rfl

/-- A further occurrence under the anchor the record was placed under waits at the nominal start (R51). -/
theorem occ_resolve_noShift (r : Resolution) (h : s.occ n = some o) (hp : o.period ≠ 0) (hrem : o.remaining ≠ 1)
    (ha : s.anchor o.sub = some o.placement) :
    (resolve r n s).occ n = some ((advanced o).waitingAt (advanced o).start o.placement) := by
  obtain ⟨sl, hsl, ho⟩ := s.occ_slot n o h
  rw [resolve_of_occ r h, rearm, if_neg (not_or.mpr ⟨hp, hrem⟩)]
  have hm : ∀ b : Bool, (if b then markLate n o.sub s else s).occ n = some o ∧
      (if b then markLate n o.sub s else s).anchor o.sub = some o.placement := by
    intro b
    cases b with
    | false => exact ⟨h, ha⟩
    | true => exact ⟨(s.occ_modSlot_self n _ sl hsl).trans ho, ha⟩
  obtain ⟨hocc, hanchor⟩ := hm r.marksLate
  rw [anchorFor_of_valid hanchor, shift_self, align, if_pos rfl, occ_putWaiting hocc, anchorFor_of_valid]
  rw [advanced_eq]
  exact hanchor

/-- Settles O19: the slot of a made record by the inversion of its making, the slot of a last occurrence by the two forms
of its re-arm, a further occurrence by the shift of an unchanged anchor, which is 0. -/
theorem recordsTakeAndLeaveSlots : Obligations.RecordsTakeAndLeaveSlots := by
  refine ⟨fun o s n u hz hgen hm => ?_, fun n o s h48 hz ho hlast => ?_, fun r n o s p ho hp hrem ha hpe => ?_⟩
  · obtain ⟨sl, hsl, hfree, hheld, rfl⟩ := makeRecord_cases hm
    have hslot := slot_makeRecord (o := o) o.sub o.start hsl
    have h48 : n < 48 := hz.1 ▸ (List.getElem?_eq_some_iff.mp hsl).1
    obtain ⟨hn, hg⟩ := handleAt_parts hslot h48
    refine ⟨(State.occ_of_slot hsl).trans hfree, hheld, State.occ_of_slot hslot,
      sameSlotsBut_modSlot (sameSlotsBut_refl n s) _, judge_live hn h48 hslot hg rfl, fun x hx hfresh => ?_⟩
    cases hsl.symm.trans hx
    have htake : (sl.take o).gen = (sl.gen + 1) % 1024 := by simp [CalSlot.take, hfresh]
    have hlt : sl.gen < 1024 := hgen sl (List.mem_of_getElem? hsl)
    obtain ⟨hn', hg'⟩ := handleAt_parts hsl h48
    refine ⟨by rw [handleAt_of_slot hslot, htake], judge_stale_of_gen hn' h48 hslot ?_⟩
    omega
  · obtain ⟨sl, hsl, hocc⟩ := s.occ_slot n o ho
    obtain ⟨hn, hg⟩ := handleAt_parts hsl h48
    refine ⟨fun r hr => ?_, fun r hr hl => ?_⟩
    · have hslot := slot_resolve_last_marked hsl hocc hlast
        (by rcases hr with rfl | rfl <;> rfl : r.marksLate = true)
      exact ⟨State.occ_of_slot hslot, sameSlotsBut_resolve r n s, judge_late hn h48 hslot hg rfl rfl rfl⟩
    · have hslot := slot_resolve_last_unmarked hsl hocc hlast
        (by rcases hr with rfl | rfl | rfl <;> rfl : r.marksLate = false)
      have hunmarked : sl.late = false := by simpa [lateAt, hsl] using hl
      exact ⟨State.occ_of_slot hslot, sameSlotsBut_resolve r n s, judge_stale_of_free hn h48 hslot rfl hunmarked⟩
  · subst hpe
    refine ⟨?_, sameSlotsBut_resolve r n s⟩
    rw [occ_resolve_noShift r ho hp hrem ha, advanced_eq]
    rfl

end Sys2Proof.Machine
end

section
/-! PROOFS. Re-timing: the whole periods that bring a candidate to the earliest start, the placing of one candidate, and
the slots that an anchor change walks through. -/
namespace Sys2Proof.Machine

variable {s t : State} {n : Nat} {o : Occasion}

/-! ### The shift between two anchors (R57) -/

theorem shift_bounds (old new : HT) : -163840 ≤ shift old new ∧ shift old new < 163840 := by
  have h := reduceHyper_cast (new - old)
  unfold shift
  split <;> omega

/-- The shift is the signed difference less whole hyperframes. -/
theorem shift_congr (old new : HT) : ∃ k : Int, (new - old).toInt = shift old new + k * 327680 := by
  have h := reduceHyper_cast (new - old)
  unfold shift
  split
  · exact ⟨(new - old).toInt / 327680, by omega⟩
  · exact ⟨(new - old).toInt / 327680 + 1, by omega⟩

/-! ### Whole periods to the earliest start (R58) -/

theorem notBefore_addTicks_of_le (a : HT) {m n : Nat} (hn : n ≤ m) (hm : m < n + 2 ^ 31) (h : m < 2 ^ 32) :
    notBefore (addTicks a m) (addTicks a n) = true := by
  have hp : (addTicks a m - addTicks a n).toNat = m - n := position_addTicks a hn h
  rw [notBefore, hp, decide_eq_true_eq]
  omega

theorem before_addTicks_of_lt (a : HT) {m n : Nat} (hm : m < n) (hn : n ≤ 2 ^ 31) :
    before (addTicks a m) (addTicks a n) = true := by
  have hp : (addTicks a m - addTicks a n).toNat = 2 ^ 32 - (n - m) := by
    simp only [addTicks]
    bv_omega
  rw [before_iff, notBefore, hp, decide_eq_true_eq]
  omega

/-- A time before another lies at most half the range below it. -/
theorem ticks_of_before {c e : HT} (h : before c e = true) :
    ∃ d, 1 ≤ d ∧ d ≤ 2 ^ 31 ∧ (e - c).toNat = d ∧ e = addTicks c d := by
  refine ⟨(e - c).toNat, ?_, ?_, rfl, (addTicks_position e c).symm⟩ <;>
  · rw [before_iff, notBefore, decide_eq_true_eq] at h
    bv_omega

theorem periodsTo_reaches {c e : HT} {step : Nat} (hc : before c e = true) (h1 : 1 ≤ step) (h2 : step ≤ 327680) :
    1 ≤ periodsTo e c step ∧ notBefore (addTicks c (periodsTo e c step * step)) e = true ∧
      ∀ j, j < periodsTo e c step → before (addTicks c (j * step)) e = true := by
  obtain ⟨d, hd1, hd2, hd, rfl⟩ := ticks_of_before hc
  unfold periodsTo
  rw [hd]
  have hle : (d + step - 1) / step * step ≤ d + step - 1 := Nat.div_mul_le_self _ _
  have hge : d + step - 1 < (d + step - 1) / step * step + step := Nat.lt_div_mul_add h1
  refine ⟨(Nat.le_div_iff_mul_le h1).mpr (by omega), notBefore_addTicks_of_le c (by omega) (by omega) (by omega),
    fun j hj => before_addTicks_of_lt c ?_ hd2⟩
  have hstep : (j + 1) * step ≤ d + step - 1 := (Nat.le_div_iff_mul_le h1).mp hj
  rw [Nat.succ_mul] at hstep
  omega

/-! ### Placing a candidate (R58) -/

section
variable {x : Occasion} {c a : HT}

theorem occ_placeCandidate_inTime (h : s.occ n = some x) (hc : notBefore c (earliestStart s.now) = true) :
    (placeCandidate n o c a s).occ n = some (o.waitingAt c (anchorFor s o)) := by
  rw [placeCandidate, if_pos hc, occ_putWaiting h]

theorem occ_placeCandidate_oneShot (h : s.occ n = some x) (hc : before c (earliestStart s.now) = true)
    (hp : o.period = 0) : (placeCandidate n o c a s).occ n = none := by
  rw [placeCandidate, if_neg ((before_iff _ _).mp hc), if_pos hp, occ_loseRetimed h]

theorem occ_placeCandidate_exhausted (h : s.occ n = some x) (hc : before c (earliestStart s.now) = true)
    (hp : o.period ≠ 0) (h1 : 1 ≤ o.remaining)
    (h2 : o.remaining ≤ periodsTo (earliestStart s.now) c (o.period * 320)) :
    (placeCandidate n o c a s).occ n = none := by
  rw [placeCandidate, if_neg ((before_iff _ _).mp hc), if_neg hp]
  dsimp only
  rw [if_pos ⟨by omega, h2⟩, occ_loseRetimed h]

theorem occ_placeCandidate_moved {k : Nat} (h : s.occ n = some x) (hc : before c (earliestStart s.now) = true)
    (hp : o.period ≠ 0) (hk : periodsTo (earliestStart s.now) c (o.period * 320) = k)
    (hr : o.remaining = 0 ∨ k < o.remaining) :
    (placeCandidate n o c a s).occ n = some (({ o with
      frame := (o.frame + k * o.period) % 1024
      remaining := o.remaining - k } : Occasion).waitingAt (addTicks c (k * (o.period * 320))) (anchorFor s o)) := by
  have hrem : (if o.remaining = 0 then 0 else o.remaining - k) = o.remaining - k := by
    split <;> omega
  rw [placeCandidate, if_neg ((before_iff _ _).mp hc), if_neg hp]
  dsimp only
  rw [hk, hrem, if_neg (by omega), occ_putWaiting h]
  rfl

end

/-! ### The slots of an anchor change (R57) -/

theorem sameSlotsBut_retimeSlots_cons (d : Int) (m : Nat) (rest : List Nat) (s : State) :
    ∃ u, CalendarOnly s u ∧ s.sameSlotsBut m u ∧ retimeSlots d (m :: rest) s = retimeSlots d rest u ∧
      ∀ o, s.occ m = some o → u = align d m o s := by
  cases h : s.occ m with
  | none => exact ⟨s, .refl s, sameSlotsBut_refl m s, by simp only [retimeSlots, h], fun _ e => by cases e⟩
  | some x => exact ⟨align d m x s, align_calendarOnly d m x s, sameSlotsBut_align d m x s,
      by simp only [retimeSlots, h], fun _ e => by cases e; rfl⟩

theorem occ_retimeSlots_of_not_mem (d : Int) {l : List Nat} : ∀ {s : State}, n ∉ l →
    (retimeSlots d l s).occ n = s.occ n := by
  induction l with
  | nil => exact fun _ => rfl
  | cons m rest ih =>
    intro s hn
    obtain ⟨hne, hrest⟩ := List.ne_and_not_mem_of_not_mem_cons hn
    obtain ⟨u, _, hslots, hu, _⟩ := sameSlotsBut_retimeSlots_cons d m rest s
    rw [hu, ih hrest, occ_of_sameSlotsBut hslots hne]

/-- Each slot of the list is aligned once, under the anchors and at the HT of the start. -/
theorem occ_retimeSlots_of_mem (d : Int) {l : List Nat} : ∀ {s : State}, l.Nodup → n ∈ l → s.occ n = some o →
    ∃ t, CalendarOnly s t ∧ t.occ n = some o ∧ (retimeSlots d l s).occ n = (align d n o t).occ n := by
  induction l with
  | nil => exact fun _ hn => absurd hn List.not_mem_nil
  | cons m rest ih =>
    intro s hnd hn ho
    obtain ⟨hm, hrest⟩ := List.nodup_cons.mp hnd
    obtain ⟨u, hk, hslots, hu, halign⟩ := sameSlotsBut_retimeSlots_cons d m rest s
    by_cases hnm : n = m
    · subst hnm
      refine ⟨s, .refl s, ho, ?_⟩
      rw [hu, occ_retimeSlots_of_not_mem d hm, halign o ho]
    · obtain ⟨t, ht, hto, hocc⟩ := ih hrest ((List.mem_cons.mp hn).resolve_left hnm)
        ((occ_of_sameSlotsBut hslots hnm).trans ho)
      exact ⟨t, hk.trans ht, hto, hu ▸ hocc⟩

section
variable {i : Sub} {old new : HT}

theorem retimed_iff : retimed i o = true ↔ o.sub = i ∧ o.state = .waiting ∧ o.kind ≠ .switch := by
  simp [retimed, and_assoc]

theorem occ_retime_of_not_retimed (ho : s.occ n = some o) (hr : retimed i o ≠ true) :
    (retime i (some old) new s).occ n = some o := by
  refine (occ_retimeSlots_of_not_mem _ fun hm => ?_).trans ho
  obtain ⟨x, hx, hc⟩ := mem_slotsWhere.mp hm
  cases ho.symm.trans hx
  exact hr hc

/-- What becomes of a record that an anchor change moves is what aligning it alone makes of it (R57). -/
theorem occ_retime_of_retimed (ho : s.occ n = some o) (hr : retimed i o = true) :
    ∃ t, CalendarOnly s t ∧ t.occ n = some o ∧
      (retime i (some old) new s).occ n = (align (shift old new) n o t).occ n :=
  occ_retimeSlots_of_mem _ (slotsWhere_nodup _ s) (mem_slotsWhere.mpr ⟨o, ho, hr⟩) ho

end

/-- Settles O20: a record that moves is aligned once, at the state's HT and under its new anchor; the candidate is placed
by R58's cases, with the number of whole periods from the division that `periodsTo` makes. -/
theorem retimingMovesTheWaitingRecords : Obligations.RetimingMovesTheWaitingRecords := by
  refine ⟨fun s sub old new n o ha ho => ⟨fun hkeep => ?_, fun hsub hst hkind => ?_⟩,
    fun old new => ⟨(shift_bounds old new).1, (shift_bounds old new).2, shift_congr old new⟩⟩
  · refine occ_retime_of_not_retimed ho fun hr => ?_
    obtain ⟨h1, h2, h3⟩ := retimed_iff.mp hr
    exact hkeep.elim (· h1) (·.elim (· h2) h3)
  · subst hsub
    obtain ⟨t, hk, hto, hocc⟩ :=
      occ_retime_of_retimed (old := old) (new := new) ho (retimed_iff.mpr ⟨rfl, hst, hkind⟩)
    have hanchor : anchorFor t o = new := anchorFor_of_valid (by rw [State.anchor, hk.tlu]; exact ha)
    have hwait : ∀ c, o.waitingAt c new = { o with start := c, endHt := none, grace := none, placement := new } := by
      intro c
      rw [hst]
      rfl
    refine ⟨fun hd => ?_, fun c hd hc => ?_⟩
    · rw [hocc, align, if_pos hd, occ_putWaiting hto, hanchor, hwait]
    · subst hc
      rw [hocc, align, if_neg hd, ← hk.tlu]
      refine ⟨fun hin => ?_, fun hb hp => occ_placeCandidate_oneShot hto hb hp, fun hb hp1 hp2 => ?_⟩
      · rw [occ_placeCandidate_inTime hto hin, hanchor, hwait]
      · obtain ⟨hk1, hreach, hfirst⟩ := periodsTo_reaches (step := o.period * 320) hb (by omega) (by omega)
        have hp : o.period ≠ 0 := by omega
        refine ⟨_, hk1, hreach, hfirst, fun hr => ?_, fun hr1 hr2 => occ_placeCandidate_exhausted hto hb hp hr1 hr2⟩
        rw [occ_placeCandidate_moved hto hb hp rfl hr, hanchor, hst]
        rfl

end Sys2Proof.Machine
end

section
/-! PROOFS. OCC_SUBMIT, OCC_CANCEL and OCC_PERIOD. -/
namespace Sys2Proof.Machine

variable {s : State} {i : Sub} {q : StackPort} {n h : Nat}

/-! ### OCC_SUBMIT (R45, R46, R47) -/

theorem bodySubmit_length {body : List Octet} {o : SubmitOps} (hb : bodySubmit body = some o) : body.length = 15 := by
  unfold bodySubmit at hb
  split at hb
  · rfl
  · cases hb

section
variable {k : OccKind} {o : SubmitOps} {a : HT}

/-- Past the checks of R46 from order 8 on, a record is made. -/
theorem admitted_taken {u : State}
    (hsoon : o.period = 0 → o.exact = 1 → notBefore (firstCandidate a o.frame o.slot) (earliestStart s.now) = true)
    (hdup : duplicateOcc s i k (convert s.now a o.frame o.slot) = false) (h48 : recordCount s < 48)
    (h32 : subRecordCount s i < 32)
    (hm : makeRecord (submitRecord i k o (convert s.now a o.frame o.slot) a) s = some (n, u)) :
    admitted i k o a s = .taken .ok u (lit (oct16 (handleAt u n) ++ octHt (convert s.now a o.frame o.slot))) := by
  have hearly : ¬ (o.period = 0 ∧ o.exact = 1 ∧
      before (firstCandidate a o.frame o.slot) (earliestStart s.now) = true) :=
    fun ⟨hp, he, hb⟩ => (before_iff _ _).mp hb (hsoon hp he)
  unfold admitted
  dsimp only
  rw [if_neg hearly, hdup, if_neg Bool.false_ne_true, if_neg (Nat.not_le.mpr h48), if_neg (Nat.not_le.mpr h32), hm]
  rfl

/-- The checks of R46 up to order 7, passed. -/
theorem runOccSubmit_admitted (hb : (s.sub i).bound = some q) (hn : subOf o.sub = some i)
    (hk : submitKind o.kind = some k) (hok : submitOk k o = true) (hst : (s.sub i).state ≠ .detached)
    (ha : s.anchor i = some a) (hc : callLinkOk s i k o.call.get? = true) (hs : sendLinkOk s i o.send.get? = true) :
    runOccSubmit (portOf q) o s = admitted i k o a s := by
  rw [runOccSubmit, withSub_bound hb hn, hk]
  simp [hok, hst, ha, hc, hs]

end

/-! ### OCC_CANCEL (R53) -/

theorem holdsGrant_iff : holdsGrant s n = true ↔ ∃ g, s.tgu.grant = some g ∧ g.handle = handleAt s n := by
  unfold holdsGrant
  cases s.tgu.grant <;> simp

theorem dropGrant_of_grant {g : Grant} (hg : s.tgu.grant = some g) : dropGrant s = noteEval { s with
    tgu := { s.tgu with grant := none }
    pins := { s.pins with trxSel := none }
    cct := { s.cct with hold := s.cct.hold.set g.sub false } } := by
  simp only [dropGrant, hg]

/-- With or without a grant to end, the calendar and the subscriptions are as they were. -/
theorem dropGrant_ocl_sbt (s : State) : (dropGrant s).ocl = s.ocl ∧ (dropGrant s).sbt = s.sbt := by
  unfold dropGrant
  split <;> exact ⟨rfl, rfl⟩

/-- Below the miss limit a removal ends the grant the record held and frees its slot (R52, R75, R85). -/
theorem removeRecord_of_below {o : Occasion} (ho : s.occ n = some o) (hm : s.belowMissLimit) :
    removeRecord compareMiss n s = leave n (if holdsGrant s n then dropGrant s else s) := by
  have hc : compareMiss o.sub (dropGrant s) = dropGrant s := by
    refine compareMiss_of_below _ _ ?_
    rw [State.sub, (dropGrant_ocl_sbt s).2]
    exact hm o.sub
  simp only [removeRecord, ho, hc]

theorem removeRecord_of_holder {o : Occasion} {g : Grant} (ho : s.occ n = some o) (hm : s.belowMissLimit)
    (hg : s.tgu.grant = some g) (hh : g.handle = handleAt s n) : removeRecord compareMiss n s = leave n { s with
      tgu := { s.tgu with grant := none }
      pins := { s.pins with trxSel := none }
      cct := { s.cct with hold := s.cct.hold.set g.sub false } } := by
  rw [removeRecord_of_below ho hm, if_pos (holdsGrant_iff.mpr ⟨g, hg, hh⟩), dropGrant_of_grant hg]
  rfl

theorem removeRecord_of_not_holder {o : Occasion} (ho : s.occ n = some o) (hm : s.belowMissLimit)
    (hh : ∀ g, s.tgu.grant = some g → g.handle ≠ handleAt s n) : removeRecord compareMiss n s = leave n s := by
  have hno : ¬ holdsGrant s n = true := fun e => by
    obtain ⟨g, hg, hgh⟩ := holdsGrant_iff.mp e
    exact hh g hg hgh
  rw [removeRecord_of_below ho hm, if_neg hno]

/-- The slot of a removed record is free, every handle of it stale, and the other slots are as they were (R41, R42). -/
theorem removeRecord_slots {o : Occasion} {l : Bool} (hj : judge h s = .live n o l) (hm : s.belowMissLimit) :
    (removeRecord compareMiss n s).occ n = none ∧ judge h (removeRecord compareMiss n s) = .stale ∧
      s.sameSlotsBut n (removeRecord compareMiss n s) := by
  obtain ⟨hn, h48, sl, hsl, _, ho⟩ := slot_of_judge_live hj
  have hocl : (if holdsGrant s n then dropGrant s else s).ocl = s.ocl := by
    split
    · exact (dropGrant_ocl_sbt s).1
    · rfl
  rw [removeRecord_of_below ((State.occ_of_slot hsl).trans ho) hm]
  have hslot := slot_leave ((congrArg (fun x => x.slots[n]?) hocl).trans hsl)
  refine ⟨State.occ_of_slot hslot, judge_stale_of_free hn h48 hslot rfl rfl, fun m hmn => ?_⟩
  rw [sameSlotsBut_leave n _ m hmn, hocl]

theorem runOccCancel_taken {o : Occasion} {l : Bool} (hj : judge h s = .live n o l)
    (hb : (s.sub o.sub).bound = some q) (hk : o.kind ≠ .switch) :
    runOccCancel (portOf q) h s = .taken .ok (removeRecord compareMiss n s) (lit (oct8 o.state.code)) := by
  rw [runOccCancel, withLive_live hj hb, if_neg hk]
  rfl

theorem runOccCancel_switch {o : Occasion} {l : Bool} (hj : judge h s = .live n o l)
    (hb : (s.sub o.sub).bound = some q) (hk : o.kind = .switch) :
    runOccCancel (portOf q) h s = .refused .occState [] := by
  rw [runOccCancel, withLive_live hj hb, if_pos hk]
  rfl

/-! ### OCC_PERIOD (R54) -/

theorem runOccPeriod_taken {o : Occasion} {l : Bool} {p : Nat} (hj : judge h s = .live n o l)
    (hb : (s.sub o.sub).bound = some q) (hp : o.period ≠ 0) (h1 : 1 ≤ p) (h2 : p ≤ 1024)
    (hf : o.length * 16 + 128 < p * 320) :
    runOccPeriod (portOf q) (h, p) s = .taken .ok
      (s.modSlot n (fun sl => { sl with occ := some { o with stagedPeriod := some p } }))
      (lit (oct16 o.period ++ oct16 p)) := by
  have hr : ¬ (p < 1 ∨ 1024 < p) := by omega
  have hfit : ¬ fitsPeriod o.length p = false := by simp [fitsPeriod, hf]
  rw [runOccPeriod, withLive_live hj hb, if_neg hp, if_neg hr, if_neg hfit]
  rfl

/-- Two octets read as a value and written again. -/
theorem oct16_u16 (lo hi : Octet) : oct16 (u16 lo hi) = [lo, hi] := by
  have hlo := lo.isLt
  unfold oct16 u16
  congr 1
  · bv_omega
  · congr 1
    bv_omega

/-- Settles O29: each request is taken by its own rule; the slots come from the laws of making and leaving, the grant
from whether the record held it. -/
theorem submitCancelAndPeriodActOnTheCalendar : Obligations.SubmitCancelAndPeriodActOnTheCalendar := by
  refine ⟨fun s tag i q k body o a hr hz hbody hn hb hk hok hst ha hc hs hsoon hdup h48 h32 => ?_,
    fun s tag q h0 h1 p0 p1 n o l hr hj hb =>
      ⟨fun hkind hm => ⟨removeRecord compareMiss n s, ?_, ?_⟩, fun hkind => ?_, fun hp hp1 hp2 hf => ?_⟩⟩
  · obtain ⟨n, u, hmake⟩ := makeRecord_of_count_lt
      (submitRecord i k o (convert s.tlu.ht a o.frame o.slot) a) (Nat.lt_of_lt_of_eq h48 hz.1.symm)
    have hrun := (runOccSubmit_admitted hb hn hk hok hst ha hc hs).trans (admitted_taken hsoon hdup h48 h32 hmake)
    obtain ⟨sl, hsl, hfree, hheld, rfl⟩ := makeRecord_cases hmake
    exact ⟨n, _, serve_taken hr.1 (stackOnly_on_portOf q) (by rw [bodySubmit_length hbody]; omega) hbody hrun,
      (State.occ_of_slot hsl).trans hfree, hheld, State.occ_of_slot (slot_makeRecord _ _ hsl),
      sameSlotsBut_modSlot (sameSlotsBut_refl n s) _, rfl⟩
  · exact serve_taken hr.1 (stackOnly_on_portOf q) (by simp) rfl (runOccCancel_taken hj hb hkind)
  · obtain ⟨_, _, sl, hsl, _, ho⟩ := slot_of_judge_live hj
    have hocc := (State.occ_of_slot hsl).trans ho
    obtain ⟨hfree, hstale, hslots⟩ := removeRecord_slots hj hm
    refine ⟨hfree, hstale, hslots, ?_⟩
    by_cases hh : ∃ g, s.tgu.grant = some g ∧ g.handle = handleAt s n
    · obtain ⟨g, hg, hgh⟩ := hh
      rw [removeRecord_of_holder hocc hm hg hgh]
      exact ⟨rfl, rfl, rfl, rfl, rfl, ⟨rfl, rfl, rfl, rfl, rfl, rfl, rfl, rfl, rfl⟩, fun _ _ _ => ⟨rfl, rfl⟩,
        fun hno => absurd hgh (hno g hg)⟩
    · have hno : ∀ g, s.tgu.grant = some g → g.handle ≠ handleAt s n := fun g hg e => hh ⟨g, hg, e⟩
      rw [removeRecord_of_not_holder hocc hm hno]
      exact ⟨rfl, rfl, rfl, rfl, rfl, ⟨rfl, rfl, rfl, rfl, rfl, rfl, rfl, rfl, rfl⟩,
        fun g hg e => absurd e (hno g hg), fun _ => ⟨rfl, rfl, rfl⟩⟩
  · exact serve_refused_ready hr (stackOnly_on_portOf q) (by simp) rfl (runOccCancel_switch hj hb hkind)
  · have hrun := runOccPeriod_taken hj hb hp hp1 hp2 hf
    rw [oct16_u16] at hrun
    exact serve_taken_ready hr (stackOnly_on_portOf q) (by simp) rfl hrun rfl

end Sys2Proof.Machine
end
